-- ==== Sys2Proof/Word.lean ====
section
/-! DEFINITION. The engine's words and bytes (R10: registers, command words and the CRC are 32 bits wide, SPI words and
buffer cells 8 bits wide). All values are unsigned (R12). -/

namespace Sys2Proof

/-- A control-port register, a command word, a CRC value (R10). -/
abbrev Word := BitVec 32

/-- An SPI word, a buffer cell (R10). -/
abbrev Byte := BitVec 8

end Sys2Proof
end

