-- ==== Sys2Proof/Syntax.lean ====
section
/-! DEFINITION. The operations (30_encoding.md R74), one constructor per row of spec/opcode_table.json, the agents that
take them (R14, R73) and the control-port registers (R31). -/

namespace Sys2Proof

/-- One step of one agent (R70, R74). A register number is `zext_32(w[15:8])` (R75): 32 bits wide, of which a
well-formed operation uses 8 (`Instr.wellFormed`). Log entry 15. -/
inductive Instr where
  | bind
  | unbind
  | regRead (r : Word)
  | regWrite (r : Word) (data : Word)
  | readyLow
  | readyHigh
  | edgeSample
  | take
  | assertBusy
  | readBlock
  | deassertBusy
  | crcValidate
  | deliver
  | busByte (b : Byte)
  | busError
  | busEnd
  deriving DecidableEq, Repr

/-- The six agents of R14. CLIENT takes no step of its own (R177). -/
inductive Agent where
  | periph
  | edge
  | worker
  | bus
  | host
  | client
  deriving DecidableEq, Repr

/-- The class of an operation: the agent that takes the step (R73, R74). -/
def Instr.agent : Instr → Agent
  | .bind | .unbind | .regRead _ | .regWrite _ _ => .host
  | .readyLow | .readyHigh => .periph
  | .edgeSample => .edge
  | .take | .assertBusy | .readBlock | .deassertBusy | .crcValidate | .deliver => .worker
  | .busByte _ | .busError | .busEnd => .bus

/-- The assigned control-port registers (R31). -/
inductive ControlReg where
  | status
  | cfgClkHz
  | cfgPayloadLen
  | blockLen
  | bufCapacity
  | xferCount
  deriving DecidableEq, Repr

end Sys2Proof
end

