-- ==== Sys2Proof/WellFormed.lean ====
section
/-! DEFINITION. Which operations can be written as operation words (R71, R75). -/

namespace Sys2Proof

/-- The register number of REG_READ and REG_WRITE fits the 8-bit ARG (R75); every other operand has its field's width
by its type. A reserved register number is well formed: it decodes and is answered ERR_REG (R77). -/
def Instr.wellFormed : Instr → Bool
  | .regRead r => decide (r.toNat < 256)
  | .regWrite r _ => decide (r.toNat < 256)
  | .bind | .unbind | .readyLow | .readyHigh | .edgeSample | .take | .assertBusy | .readBlock
  | .deassertBusy | .crcValidate | .deliver | .busByte _ | .busError | .busEnd => true

end Sys2Proof
end

