-- ==== Sys2Proof/Decode.lean ====
section
/-! DEFINITION. Decoding operation words (R71, R74-R78), and the encoder. A list of 32-bit words is decoded, because the
control port carries whole words (R56). -/

namespace Sys2Proof

/-- Why a word is INVALID (R77, R78), or that a word is still to come (R76). -/
inductive DecodeError where
  /-- There is no word at all. -/
  | noWord
  /-- RSV, bits 31:16, is not 0. -/
  | reservedBits
  /-- The operation code is reserved. -/
  | reservedOpcode (opc : BitVec 8)
  /-- ARG is not 0 for an operation whose ARG must be 0. -/
  | argNotZero (opc : BitVec 8)
  /-- REG_WRITE without its DATA word. -/
  | missingData
  deriving DecidableEq, Repr

/-- OPC, bits 7:0 (R71). -/
def opcOf (w : Word) : BitVec 8 := w.extractLsb' 0 8

/-- ARG, bits 15:8 (R71). -/
def argOf (w : Word) : BitVec 8 := w.extractLsb' 8 8

/-- RSV, bits 31:16 (R71). -/
def rsvOf (w : Word) : BitVec 16 := w.extractLsb' 16 16

/-- The operations whose ARG must be 0, by OPC (R74). -/
def plainOp (opc : BitVec 8) : Option Instr :=
  match opc with
  | 0x01#8 => some .bind
  | 0x02#8 => some .unbind
  | 0x10#8 => some .readyLow
  | 0x11#8 => some .readyHigh
  | 0x20#8 => some .edgeSample
  | 0x30#8 => some .take
  | 0x31#8 => some .assertBusy
  | 0x32#8 => some .readBlock
  | 0x33#8 => some .deassertBusy
  | 0x34#8 => some .crcValidate
  | 0x35#8 => some .deliver
  | 0x41#8 => some .busError
  | 0x42#8 => some .busEnd
  | _ => none

/-- The decoder (R77): the operation at the head of a list of words and the words after it. Only REG_WRITE takes a
second word, DATA (R76, R185). -/
def decode : List Word → Except DecodeError (Instr × List Word)
  | [] => .error .noWord
  | w :: rest =>
    if rsvOf w ≠ 0#16 then .error .reservedBits
    else if opcOf w = 0x03#8 then .ok (.regRead ((argOf w).setWidth 32), rest)
    else if opcOf w = 0x04#8 then
      match rest with
      | data :: rest' => .ok (.regWrite ((argOf w).setWidth 32) data, rest')
      | [] => .error .missingData
    else if opcOf w = 0x40#8 then .ok (.busByte (argOf w), rest)
    else match plainOp (opcOf w) with
      | none => .error (.reservedOpcode (opcOf w))
      | some i => if argOf w = 0#8 then .ok (i, rest) else .error (.argNotZero (opcOf w))

/-- The class nibble OPC[7:4] (R73); reserved classes have no agent. -/
def classOf (w : Word) : Option Agent :=
  match w.extractLsb' 4 4 with
  | 0x0#4 => some .host
  | 0x1#4 => some .periph
  | 0x2#4 => some .edge
  | 0x3#4 => some .worker
  | 0x4#4 => some .bus
  | _ => none

/-! ## The encoder -/

/-- Format O (R71): RSV = 0, ARG, OPC. -/
def formatO (arg opc : BitVec 8) : Word := (arg.setWidth 32 <<< 8) ||| opc.setWidth 32

/-- The operation code of each row (R74). -/
def Instr.opc : Instr → BitVec 8
  | .bind => 0x01#8
  | .unbind => 0x02#8
  | .regRead _ => 0x03#8
  | .regWrite _ _ => 0x04#8
  | .readyLow => 0x10#8
  | .readyHigh => 0x11#8
  | .edgeSample => 0x20#8
  | .take => 0x30#8
  | .assertBusy => 0x31#8
  | .readBlock => 0x32#8
  | .deassertBusy => 0x33#8
  | .crcValidate => 0x34#8
  | .deliver => 0x35#8
  | .busByte _ => 0x40#8
  | .busError => 0x41#8
  | .busEnd => 0x42#8

/-- The ARG field of each row (R71, R75). -/
def Instr.arg : Instr → BitVec 8
  | .regRead r => r.setWidth 8
  | .regWrite r _ => r.setWidth 8
  | .busByte b => b
  | .bind | .unbind | .readyLow | .readyHigh | .edgeSample | .take | .assertBusy | .readBlock
  | .deassertBusy | .crcValidate | .deliver | .busError | .busEnd => 0#8

/-- The operation word that names a step, its first word (R70, R71). -/
def opWord (i : Instr) : Word := formatO i.arg i.opc

/-- All words of an operation: REG_WRITE has DATA second, every other operation is one word (R76). -/
def encode : Instr → List Word
  | .regWrite r data => [opWord (.regWrite r data), data]
  | i => [opWord i]

/-- How many words an operation takes (R76). -/
def Instr.wordCount : Instr → Nat
  | .regWrite _ _ => 2
  | .bind | .unbind | .regRead _ | .readyLow | .readyHigh | .edgeSample | .take | .assertBusy
  | .readBlock | .deassertBusy | .crcValidate | .deliver | .busByte _ | .busError | .busEnd => 1

/-- "A decoder tells the length from OPC alone" (R76). -/
def wordCountOf (w : Word) : Nat := if opcOf w = 0x04#8 then 2 else 1

/-! ## The opcode map as a table of masks and patterns -/

/-- One row of the opcode map (R74). -/
structure OpcodeRow where
  mnemonic : String
  agent : Agent
  pattern : Word
  mask : Word
  deriving DecidableEq, Repr

/-- The opcode map of R74, row by row. -/
def opcodeMap : List OpcodeRow :=
  [⟨"BIND", .host, 0x00000001#32, 0xFFFFFFFF#32⟩,
   ⟨"UNBIND", .host, 0x00000002#32, 0xFFFFFFFF#32⟩,
   ⟨"REG_READ", .host, 0x00000003#32, 0xFFFF00FF#32⟩,
   ⟨"REG_WRITE", .host, 0x00000004#32, 0xFFFF00FF#32⟩,
   ⟨"READY_LOW", .periph, 0x00000010#32, 0xFFFFFFFF#32⟩,
   ⟨"READY_HIGH", .periph, 0x00000011#32, 0xFFFFFFFF#32⟩,
   ⟨"EDGE_SAMPLE", .edge, 0x00000020#32, 0xFFFFFFFF#32⟩,
   ⟨"TAKE", .worker, 0x00000030#32, 0xFFFFFFFF#32⟩] ++
  [⟨"ASSERT_BUSY", .worker, 0x00000031#32, 0xFFFFFFFF#32⟩,
   ⟨"READ_BLOCK", .worker, 0x00000032#32, 0xFFFFFFFF#32⟩,
   ⟨"DEASSERT_BUSY", .worker, 0x00000033#32, 0xFFFFFFFF#32⟩,
   ⟨"CRC_VALIDATE", .worker, 0x00000034#32, 0xFFFFFFFF#32⟩,
   ⟨"DELIVER", .worker, 0x00000035#32, 0xFFFFFFFF#32⟩,
   ⟨"BUS_BYTE", .bus, 0x00000040#32, 0xFFFF00FF#32⟩,
   ⟨"BUS_ERROR", .bus, 0x00000041#32, 0xFFFFFFFF#32⟩,
   ⟨"BUS_END", .bus, 0x00000042#32, 0xFFFFFFFF#32⟩]

/-- The row's mnemonic (R74). -/
def Instr.mnemonic : Instr → String
  | .bind => "BIND"
  | .unbind => "UNBIND"
  | .regRead _ => "REG_READ"
  | .regWrite _ _ => "REG_WRITE"
  | .readyLow => "READY_LOW"
  | .readyHigh => "READY_HIGH"
  | .edgeSample => "EDGE_SAMPLE"
  | .take => "TAKE"
  | .assertBusy => "ASSERT_BUSY"
  | .readBlock => "READ_BLOCK"
  | .deassertBusy => "DEASSERT_BUSY"
  | .crcValidate => "CRC_VALIDATE"
  | .deliver => "DELIVER"
  | .busByte _ => "BUS_BYTE"
  | .busError => "BUS_ERROR"
  | .busEnd => "BUS_END"

/-- The row matches the word under its mask (R74). -/
def OpcodeRow.covers (row : OpcodeRow) (w : Word) : Bool := (w &&& row.mask) == row.pattern

/-! ## The host's view of one table word -/

/-- The words of an instruction whose bits are `w`, `nbits` of them, numbered from bit 0 of the first word; bits above
`nbits` are 0. -/
def tableWords (nbits w : Nat) : List Word :=
  [BitVec.ofNat 32 (w % 2 ^ nbits), BitVec.ofNat 32 (w % 2 ^ nbits / 2 ^ 32)]

/-- The instruction the decoder reads from an instruction whose bits are `w`. -/
def decodeTableWord (nbits w : Nat) : Option Instr :=
  match decode (tableWords nbits w) with
  | .ok (i, _) => some i
  | .error _ => none

end Sys2Proof
end

