-- ==== Sys2Proof/Config.lean ====
section
/-! DEFINITION. What an implementation fixes (the parameters of R7) and the free values: what the spec leaves open and
no definition of the model may choose. -/

namespace Sys2Proof

/-- The byte order of the checksum field, the parameter `CHK_BYTE_ORDER` (R7, R53). -/
inductive ByteOrder where
  | le
  | be
  deriving DecidableEq, Repr

/-- FREE VALUE: the value of the OPEN parameter `SPI_MODE` (R7, D14), clock polarity and phase. Log entry 17. -/
opaque Config.spiMode : BitVec 2

/-- The implementation parameters of R7: "A model takes each one as a configuration argument". -/
structure Params where
  /-- `BUF_CAPACITY`, bytes of receive-buffer storage. -/
  bufCapacity : Nat
  /-- `RESET_PAYLOAD_LEN`, the reset value of CFG_PAYLOAD_LEN. -/
  resetPayloadLen : Word
  /-- `CRC_POLY`, the generator polynomial in MSB-first form. -/
  crcPoly : Word
  /-- `CRC_INIT`, the initial CRC register. -/
  crcInit : Word
  /-- `CRC_XOROUT`, XORed into the final CRC. -/
  crcXorout : Word
  /-- `CHK_BYTE_ORDER`. -/
  chkByteOrder : ByteOrder
  /-- `MOSI_FILL`, the byte driven on MOSI. -/
  mosiFill : Byte
  /-- `SPI_MODE`, clock polarity and phase. No rule reads it (R11). -/
  spiMode : BitVec 2
  /-- `SPI_WORD_BITS`. -/
  spiWordBits : Nat
  deriving DecidableEq, Repr

/-- What R7, R36 and D30 ask of the parameters: the checksum field fits the buffer, and the register BUF_CAPACITY holds
its capacity. -/
def Params.wellFormed (p : Params) : Bool := decide (4 ≤ p.bufCapacity) && decide (p.bufCapacity < 2 ^ 32)

/-- "The defaults are the values this engine takes" (R7). Log entry 13. -/
def Config.engine : Params where
  bufCapacity := 40964
  resetPayloadLen := 40960#32
  crcPoly := 0x04C11DB7#32
  crcInit := 0xFFFFFFFF#32
  crcXorout := 0#32
  chkByteOrder := .le
  mosiFill := 0#8
  spiMode := Config.spiMode
  spiWordBits := 8

/-- One move of the environment's schedule: which step comes next (R14, R209, R230). -/
inductive Move where
  /-- HOST's turn: the control port takes its next command (R180). -/
  | host
  /-- A step of PERIPH, EDGE, WORKER or BUS, named by its operation word (R70, R86). -/
  | agent (w : Word)
  /-- Hardware reset (R230), with the level the peripheral then drives on READY (a draw, R44). -/
  | hardwareReset (ready : Bool)
  deriving DecidableEq, Repr, Inhabited

/-- FREE VALUE: the move the environment makes when none is lined up ("Which enabled step is taken next is left open",
R14). Log entry 1. -/
opaque Config.freeMove : Nat → Move

/-- FREE VALUE: the word the host sends when none is lined up on the control port (R238). Log entry 3. -/
opaque Config.freeHostWord : Nat → Word

/-- FREE VALUE: the draw `resources_ok` of a BIND when none is lined up (R181). Log entry 4. -/
opaque Config.freeResourcesOk : Nat → Bool

/-- FREE VALUE: the byte at an address of BUF that nothing has written since the buffer's contents last became
unspecified (R44, R69): first argument that epoch, second the address. Log entry 7. -/
opaque Config.freeBufByte : Nat → Nat → Byte

end Sys2Proof
end

