-- ==== Sys2Proof/Machine/State.lean ====
section
/-! DEFINITION. The engine's state (10_state.md R20), its reset value (R44) and the reasons a step can stop. -/

namespace Sys2Proof.Machine

/-- The worker's sequencer position (R22): 3 bits, all eight values assigned. `Phase.code` is its encoding. -/
inductive Phase where
  | idle
  | taken
  | asserted
  | reading
  | readDone
  | readFailed
  | validate
  | deliver
  deriving DecidableEq, Repr

/-- The kind of the latched result (R20, R29): 2 bits, all four values assigned. `ResKind.code` is its encoding. -/
inductive ResKind where
  | none
  | ok
  | busError
  | mismatch
  deriving DecidableEq, Repr

/-- The response codes that are produced (R81); codes 6 and 7 never are. `RespCode.code` is the encoding. -/
inductive RespCode where
  | ok
  | errState
  | errReg
  | errBind
  | errCmd
  | pending
  deriving DecidableEq, Repr

/-- One response of the control port: a code and the data word `RDATA` (R82). -/
structure Response where
  code : RespCode
  data : Word
  deriving DecidableEq, Repr

/-- A Transfer Result (R83): a validated payload or a typed failure. -/
inductive TransferResult where
  | ok (payload : List Byte)
  | busError
  | mismatch (expected received : Word)
  deriving DecidableEq, Repr

/-- An entry of the event history (R72): the operation word and the step's operands and outcome. -/
inductive Event where
  /-- An operation recorded by its word alone. -/
  | op (w : Word)
  /-- BUS_BYTE: the byte, which is also in ARG. -/
  | busByte (w : Word) (b : Byte)
  /-- DELIVER: the Transfer Result. -/
  | deliver (w : Word) (r : TransferResult)
  /-- BIND: the draw `resources_ok` and the response. -/
  | bind (w : Word) (resourcesOk : Bool) (r : Response)
  /-- UNBIND: the response. -/
  | unbind (w : Word) (r : Response)
  /-- REG_READ: the response and its data. -/
  | regRead (w : Word) (r : Response)
  /-- REG_WRITE: `DATA` and the response. -/
  | regWrite (w data : Word) (r : Response)
  /-- The marker `RESET` of a hardware reset (R230). -/
  | reset
  deriving DecidableEq, Repr

/-- The listed bytes of the receive buffer, addresses strictly rising (`Memory.wf`). An unlisted address holds no known
byte and reads as the free value `Config.freeBufByte` (R44, R69). Log entry 7. -/
abbrev Memory := List Host.Cell

/-- An input the environment feeds to the engine: the values it has lined up, and how many free values were used after
the line had run out. MODEL's own (log entries 1, 3, 4). -/
structure Feed (α : Type) where
  queue : List α
  used : Nat
  deriving DecidableEq, Repr

/-- The state of one engine instance (R20), and after it the MODEL's own fields. -/
structure State where
  /-- 1 while a Device Session exists (R21). -/
  bound : Bool
  /-- 1 between an UNBIND that had to wait and the end of the in-flight attempt (R182). -/
  unbinding : Bool
  /-- The sequencer position (R22). -/
  phase : Phase
  /-- The single-slot edge notification (R24). -/
  pending : Bool
  /-- The level on the READY input pin (R25). -/
  readyIn : Bool
  /-- The edge detector's last sample of READY (R25). -/
  readyPrev : Bool
  /-- READY at the start of the attempt, for logging only (R25, R157). -/
  readyAtTake : Bool
  /-- The level on the BUSY output pin (R26). -/
  busyOut : Bool
  /-- 1 while chip-select is asserted (R26). -/
  csActive : Bool
  /-- The index of the next buffer byte, XFER_COUNT (R28, R37). -/
  busCount : Word
  /-- The result latch (R29): kind, -/
  resKind : ResKind
  /-- computed CRC, -/
  resExpected : Word
  /-- received checksum field. -/
  resReceived : Word
  /-- CFG_CLK_HZ (R33). -/
  cfgClkHz : Word
  /-- CFG_PAYLOAD_LEN (R34). -/
  cfgPayloadLen : Word
  /-- The receive buffer BUF (R50). -/
  buf : Memory
  /-- The event history, oldest first (R15, R72). -/
  hist : List Event
  /-- The Transfer Results pushed to the client, oldest first (R176). -/
  out : List TransferResult
  /-- MODEL's own: the responses the control port has given, oldest first (R82). Log entry 10. -/
  responses : List Response
  /-- MODEL's own: how often the buffer's contents have become unspecified (R69). Log entry 7. -/
  bufEpoch : Nat
  /-- MODEL's own: the moves the environment makes (R14). Log entry 1. -/
  moves : Feed Move
  /-- MODEL's own: the words the host puts on the control port (R180). Log entry 3. -/
  port : Feed Word
  /-- MODEL's own: the draws `resources_ok` (R181). Log entry 4. -/
  draws : Feed Bool
  deriving DecidableEq, Repr

/-- The model's own stops. The engine has none (R30, R205): each is raised only in a state that no run from reset
reaches. -/
inductive Fault where
  /-- An access to BUF at an address outside `0 .. BUF_CAPACITY-1`, which R50 does not give the buffer. Raised by
  BUS_BYTE, CRC_VALIDATE and DELIVER. Safe. Log entry 8. -/
  | bufferRange
  /-- DELIVER with the latch at NONE, for which R175 lists no case. Safe. Log entry 9. -/
  | noResult
  deriving DecidableEq, Repr

/-- Why the model has no meaning for an operation. -/
inductive Refusal where
  /-- The operation has no meaning in this model. Raised by the dispatcher alone, for an arm not modelled; no arm is.
  Safe. -/
  | notModelled (mnemonic : String)
  deriving DecidableEq, Repr

/-- An input with nothing lined up. -/
def Feed.none {α : Type} : Feed α := { queue := [], used := 0 }

/-- An engine of given parameters right after the first power-on: every field at the value of R44, READY low (log
entry 5), no byte of BUF known (log entry 7), nothing observed yet and nothing lined up by the environment. -/
def State.powerOn (p : Params) : State where
  bound := false
  unbinding := false
  phase := .idle
  pending := false
  readyIn := false
  readyPrev := false
  readyAtTake := false
  busyOut := false
  csActive := false
  busCount := 0#32
  resKind := .none
  resExpected := 0#32
  resReceived := 0#32
  cfgClkHz := 0#32
  cfgPayloadLen := p.resetPayloadLen
  buf := []
  hist := []
  out := []
  responses := []
  bufEpoch := 0
  moves := .none
  port := .none
  draws := .none

/-- This engine right after the first power-on: the parameters at their defaults (R7). -/
def State.reset : State := State.powerOn Config.engine

end Sys2Proof.Machine
end

