-- ==== Sys2Proof/Machine/Flags.lean ====
section
/-! DEFINITION. What the outside reads of the state: the STATUS register (R32), the codes of phases, results and
responses (R22, R20, R81-R83) and the pins (R43, R114). -/

namespace Sys2Proof.Machine

/-! ## Codes -/

/-- The encoding of `phase` (R22). -/
def Phase.code : Phase → BitVec 3
  | .idle => 0#3
  | .taken => 1#3
  | .asserted => 2#3
  | .reading => 3#3
  | .readDone => 4#3
  | .readFailed => 5#3
  | .validate => 6#3
  | .deliver => 7#3

/-- The encoding of `res_kind` (R20). -/
def ResKind.code : ResKind → BitVec 2
  | .none => 0#2
  | .ok => 1#2
  | .busError => 2#2
  | .mismatch => 3#2

/-- The response codes (R81). -/
def RespCode.code : RespCode → BitVec 3
  | .ok => 0#3
  | .errState => 1#3
  | .errReg => 2#3
  | .errBind => 3#3
  | .errCmd => 4#3
  | .pending => 5#3

/-- A response on the control port: `RESP`, whose bits 2:0 hold the code, and `RDATA` (R82). -/
def Response.words (r : Response) : Word × Word := (r.code.code.setWidth 32, r.data)

/-- The `KIND` of a Transfer Result (R83). -/
def TransferResult.kind : TransferResult → ResKind
  | .ok _ => .ok
  | .busError => .busError
  | .mismatch _ _ => .mismatch

/-- A Transfer Result on the result port: its words, `KIND` first, and the payload bytes that follow (R83). -/
def TransferResult.record : TransferResult → List Word × List Byte
  | .ok payload => ([ResKind.ok.code.setWidth 32, BitVec.ofNat 32 payload.length], payload)
  | .busError => ([ResKind.busError.code.setWidth 32], [])
  | .mismatch expected received => ([ResKind.mismatch.code.setWidth 32, expected, received], [])

/-! ## STATUS -/

/-- The orchestrator state derived from `phase`: Transferring (R23). -/
def transferring (s : State) : Bool := decide (s.phase ≠ .idle)

/-- STATUS (R32): `zext_32(phase || unbinding || cs_active || ready_at_take || ready_in || busy_out || pending || STATE
|| bound)`. -/
def statusWord (s : State) : Word :=
  (s.phase.code ++ BitVec.ofBool s.unbinding ++ BitVec.ofBool s.csActive ++ BitVec.ofBool s.readyAtTake
    ++ BitVec.ofBool s.readyIn ++ BitVec.ofBool s.busyOut ++ BitVec.ofBool s.pending
    ++ BitVec.ofBool (transferring s) ++ BitVec.ofBool s.bound).setWidth 32

/-! ## Pins -/

/-- The BUSY pin, 1 = asserted (R26, R43). -/
def busyPin (s : State) : Bool := s.busyOut

/-- The CS_N pin, active low (R26, R114). PRESUMED by the spec (G5). -/
def csNPin (s : State) : Bool := !s.csActive

/-- The byte MOSI carries while a byte is clocked in (R114, R7). -/
def mosiByte (p : Params) : Byte := p.mosiFill

/-- The byte a word of eight MISO bits stands for, first bit on the wire first: the first bit is bit 7 (R54). -/
def misoByte (bits : List Bool) : Byte :=
  bits.foldl (fun acc bit => (acc <<< 1) ||| (BitVec.ofBool bit).setWidth 8) 0#8

/-- SCLK periods one operation clocks: `SPI_WORD_BITS` for a BUS_BYTE, none otherwise (R114). -/
def sclkPeriods (p : Params) : Instr → Nat
  | .busByte _ => p.spiWordBits
  | .bind | .unbind | .regRead _ | .regWrite _ _ | .readyLow | .readyHigh | .edgeSample | .take
  | .assertBusy | .readBlock | .deassertBusy | .crcValidate | .deliver | .busError | .busEnd => 0

end Sys2Proof.Machine
end

