-- ==== Sys2Proof/Machine/Operands.lean ====
section
/-! DEFINITION. The operands a step reads: lengths, control-port registers by number, the receive buffer byte by byte,
the checksum field, the environment's inputs; and the guards of the steps. -/

namespace Sys2Proof.Machine

/-! ## Lengths -/

/-- BLOCK_LEN (R35): `(cfg_payload_len + 4) mod 2^32`. -/
def blockLen (s : State) : Word := s.cfgPayloadLen + 4#32

/-- The payload length `L` as a number of bytes (R34). -/
def payloadLen (s : State) : Nat := s.cfgPayloadLen.toNat

/-- The payload length fits the buffer: `cfg_payload_len <= BUF_CAPACITY - 4` (R181; `BUF_CAPACITY >= 4`, D30). -/
def lengthFits (p : Params) (len : Word) : Bool := decide (len.toNat + 4 ≤ p.bufCapacity)

/-! ## Control-port registers -/

/-- The register a number names (R31); 0x06 to 0xFF are reserved (R38). -/
def regOfNumber (r : Word) : Option ControlReg :=
  if r = 0x00#32 then some .status
  else if r = 0x01#32 then some .cfgClkHz
  else if r = 0x02#32 then some .cfgPayloadLen
  else if r = 0x03#32 then some .blockLen
  else if r = 0x04#32 then some .bufCapacity
  else if r = 0x05#32 then some .xferCount
  else none

/-- The number of a register (R31). -/
def regNumber : ControlReg → Word
  | .status => 0x00#32
  | .cfgClkHz => 0x01#32
  | .cfgPayloadLen => 0x02#32
  | .blockLen => 0x03#32
  | .bufCapacity => 0x04#32
  | .xferCount => 0x05#32

/-- What a register reads as (R32-R37). A read has no side effect (R59). -/
def readControlReg (p : Params) (s : State) : ControlReg → Word
  | .status => statusWord s
  | .cfgClkHz => s.cfgClkHz
  | .cfgPayloadLen => s.cfgPayloadLen
  | .blockLen => blockLen s
  | .bufCapacity => BitVec.ofNat 32 p.bufCapacity
  | .xferCount => s.busCount

/-! ## The receive buffer -/

/-- The byte listed at an address, if there is one. -/
def Memory.find (a : Nat) : Memory → Option Byte
  | [] => none
  | c :: m => if c.1 = a then some c.2 else Memory.find a m

/-- `BUF[a]`: the listed byte, or the free value of an address that holds no known byte (R44, R69). Log entry 7. -/
def bufByte (s : State) (a : Nat) : Byte := (Memory.find a s.buf).getD (Config.freeBufByte s.bufEpoch a)

/-- The addresses `a .. a+n-1` are addresses of BUF (R50). -/
def inBuffer (p : Params) (a n : Nat) : Bool := decide (a + n ≤ p.bufCapacity)

/-- `MemRead(a, n)` (R13): the bytes `BUF[a] ++ ... ++ BUF[a+n-1]`, none where one of them does not exist. -/
def memRead (p : Params) (s : State) (a n : Nat) : Option (List Byte) :=
  if inBuffer p a n then some ((List.range n).map fun k => bufByte s (a + k)) else none

/-- `load32` on its four bytes, lowest address first, in the byte order `CHK_BYTE_ORDER` (R53). -/
def load32 (order : ByteOrder) (b0 b1 b2 b3 : Byte) : Word :=
  match order with
  | .le => b0.setWidth 32 ||| (b1.setWidth 32 <<< 8) ||| (b2.setWidth 32 <<< 16) ||| (b3.setWidth 32 <<< 24)
  | .be => (b0.setWidth 32 <<< 24) ||| (b1.setWidth 32 <<< 16) ||| (b2.setWidth 32 <<< 8) ||| b3.setWidth 32

/-- The checksum field at address `a` as the engine reads it: `load32(a)` (R53, R131), none where one of its bytes does
not exist. -/
def loadField (p : Params) (s : State) (a : Nat) : Option Word :=
  if inBuffer p a 4 then
    some (load32 p.chkByteOrder (bufByte s a) (bufByte s (a + 1)) (bufByte s (a + 2)) (bufByte s (a + 3)))
  else none

/-! ## The environment's inputs -/

/-- The next value of an input: the first one lined up, or the free value when none is. -/
def Feed.head {α : Type} (free : Nat → α) (f : Feed α) : α :=
  match f.queue with
  | x :: _ => x
  | [] => free f.used

/-- The input after its next value has been taken. -/
def Feed.tail {α : Type} (f : Feed α) : Feed α :=
  match f.queue with
  | _ :: q => { f with queue := q }
  | [] => { f with used := f.used + 1 }

/-- The input after `n` values have been taken. -/
def Feed.drop {α : Type} : Nat → Feed α → Feed α
  | 0, f => f
  | n + 1, f => Feed.drop n f.tail

/-- The input with values lined up in front of the ones already there. -/
def Feed.push {α : Type} (xs : List α) (f : Feed α) : Feed α := { f with queue := xs ++ f.queue }

/-- The move the environment makes next (R14). -/
def nextMove (s : State) : Move := s.moves.head Config.freeMove

/-- The next word on the control port and the one after it, which is DATA if the first is a REG_WRITE (R71, R76). -/
def portWords (s : State) : List Word :=
  [s.port.head Config.freeHostWord, s.port.tail.head Config.freeHostWord]

/-- The draw `resources_ok` (R181). -/
def resourcesOk (s : State) : Bool := s.draws.head Config.freeResourcesOk

/-! ## Guards -/

/-- The guard of each step, as its rule states it. A host command has none: it always gets a response
(45_lifecycle.md). -/
def enabled (i : Instr) (s : State) : Bool :=
  match i with
  | .bind | .unbind | .regRead _ | .regWrite _ _ => true
  | .readyHigh => !s.readyIn
  | .readyLow => s.readyIn
  | .edgeSample => s.bound && !s.unbinding && (s.readyPrev != s.readyIn)
  | .take => s.bound && decide (s.phase = .idle) && s.pending
  | .assertBusy => s.bound && decide (s.phase = .taken)
  | .readBlock => s.bound && decide (s.phase = .asserted)
  | .deassertBusy => s.bound && decide (s.phase = .readDone ∨ s.phase = .readFailed)
  | .crcValidate => s.bound && decide (s.phase = .validate)
  | .deliver => s.bound && decide (s.phase = .deliver)
  | .busByte _ => s.bound && decide (s.phase = .reading) && decide (s.busCount < blockLen s)
  | .busEnd => s.bound && decide (s.phase = .reading) && decide (s.busCount = blockLen s)
  | .busError => s.bound && decide (s.phase = .reading)

end Sys2Proof.Machine
end

