-- ==== Sys2Proof/Machine/Ops.lean ====
section
/-! DEFINITION. The operations the meanings share: writing the buffer, the CRC, observing (history, results, responses),
the session, the entry into an attempt and the return from one (R211, R213), hardware reset (R230), and fetching the next
move and the next command. -/

namespace Sys2Proof.Machine

/-- The outcome of a step of this machine. -/
abbrev Outcome := Host.Outcome State Fault Refusal

/-! ## The receive buffer -/

/-- Lists a byte at an address, in place of the one listed there before, keeping the addresses rising. -/
def Memory.store (a : Nat) (b : Byte) : Memory → Memory
  | [] => [(a, b)]
  | c :: m =>
    if a < c.1 then (a, b) :: c :: m
    else if c.1 = a then (a, b) :: m
    else c :: Memory.store a b m

/-- The addresses of a memory rise strictly. -/
def Memory.rising : Memory → Bool
  | [] => true
  | [_] => true
  | c :: d :: m => decide (c.1 < d.1) && Memory.rising (d :: m)

/-- The canonical form of the buffer's listed bytes: addresses strictly rising, each an address of BUF. No listed byte
equals what an unlisted address holds, which is no known byte at all. -/
def Memory.wf (p : Params) (m : Memory) : Bool :=
  Memory.rising m && m.all fun c => decide (c.1 < p.bufCapacity)

/-- `MemWrite(a, 1, b)` (R13): `BUF[a] <- b`, none where the address does not exist. -/
def memWrite (p : Params) (a : Nat) (b : Byte) (s : State) : Option State :=
  if inBuffer p a 1 then some { s with buf := Memory.store a b s.buf } else none

/-- The buffer's contents become unspecified (R69, R182, R231): no byte is known any more. -/
def forgetBuffer (s : State) : State := { s with buf := [], bufEpoch := s.bufEpoch + 1 }

/-! ## The CRC (R130) -/

/-- One of the eight bit steps of R130. -/
def crcBit (p : Params) (c : Word) : Word := if c.getLsbD 31 then (c <<< 1) ^^^ p.crcPoly else c <<< 1

/-- Several bit steps. -/
def crcBits (p : Params) : Nat → Word → Word
  | 0, c => c
  | n + 1, c => crcBits p n (crcBit p c)

/-- One byte of R130: XOR into the top byte, then eight bit steps. -/
def crcByte (p : Params) (c : Word) (b : Byte) : Word := crcBits p 8 (c ^^^ (b.setWidth 32 <<< 24))

/-- The CRC register after a byte sequence. -/
def crcRegister (p : Params) (c : Word) (d : List Byte) : Word := d.foldl (crcByte p) c

/-- `crc32_be` (R130). -/
def crc32be (p : Params) (d : List Byte) : Word := crcRegister p p.crcInit d ^^^ p.crcXorout

/-! ## Observing -/

/-- Appends an event to the history (R15). -/
def record (e : Event) (s : State) : State := { s with hist := s.hist ++ [e] }

/-- `emit r` (R176): appends the result to the client output. -/
def emit (r : TransferResult) (s : State) : State := { s with out := s.out ++ [r] }

/-- `respond(code, data)` (R82): the control port gives a response. -/
def respond (code : RespCode) (data : Word) (s : State) : State :=
  { s with responses := s.responses ++ [{ code := code, data := data }] }

/-- A command's one response, and the command's entry in the history, which holds it (R72, R180). -/
def reply (event : Response → Event) (code : RespCode) (data : Word) (s : State) : State :=
  record (event { code := code, data := data }) (respond code data s)

/-- A step happens only when its guard holds (R14): otherwise the engine stays as it is. Log entry 2. -/
def guarded (i : Instr) (s : State) (effect : Outcome) : Outcome := if enabled i s then effect else .next s

/-! ## The result latch (R29) -/

/-- The latch holds a result until DELIVER pushes it. -/
def latch (kind : ResKind) (expected received : Word) (s : State) : State :=
  { s with resKind := kind, resExpected := expected, resReceived := received }

/-- The verdict of CRC_VALIDATE on a payload and its checksum field (R132, R135). -/
def latchVerdict (p : Params) (payload : List Byte) (received : Word) (s : State) : State :=
  if crc32be p payload = received then latch .ok 0#32 0#32 s
  else latch .mismatch (crc32be p payload) received s

/-- The Transfer Result the latch stands for (R175). Outside: no result (log entry 9), or a payload beyond the buffer
(log entry 8). -/
def latchedResult (p : Params) (s : State) : Except Fault TransferResult :=
  match s.resKind with
  | .none => .error .noResult
  | .ok =>
    match memRead p s 0 (payloadLen s) with
    | some payload => .ok (.ok payload)
    | none => .error .bufferRange
  | .busError => .ok .busError
  | .mismatch => .ok (.mismatch s.resExpected s.resReceived)

/-! ## The session -/

/-- What a successful BIND sets (R181). Log entry 14. -/
def openSession (s : State) : State :=
  { s with
    bound := true
    unbinding := false
    phase := .idle
    pending := false
    readyPrev := s.readyIn
    readyAtTake := false
    busyOut := false
    csActive := false
    busCount := 0#32
    resKind := .none
    resExpected := 0#32
    resReceived := 0#32 }

/-- `teardown()` (R182): the session ends and the buffer's contents become unspecified (R69). -/
def teardown (s : State) : State :=
  forgetBuffer
    { s with bound := false, unbinding := false, pending := false, busyOut := false, csActive := false }

/-- An UNBIND during an attempt (R182): edge detection is off and no further attempt will start. -/
def deferUnbind (s : State) : State := { s with unbinding := true, pending := false }

/-! ## Entry into an attempt and return from it -/

/-- The entry, Idle → Transferring (R156, R211): it saves READY's level for logging, acknowledges the notification and
goes to the fixed sequence. -/
def enterAttempt (s : State) : State :=
  { s with pending := false, readyAtTake := s.readyIn, phase := .taken }

/-- The end of a session whose UNBIND had to wait, otherwise nothing (R175). -/
def endIfUnbinding (s : State) : State := if s.unbinding then teardown s else s

/-- The return, Transferring → Idle (R175, R213): the result is pushed, the latch cleared, the sequencer idle, and a
session whose UNBIND had to wait ends. -/
def leaveAttempt (r : TransferResult) (s : State) : State :=
  endIfUnbinding { latch .none 0#32 0#32 (emit r s) with phase := .idle }

/-! ## Hardware reset -/

/-- Hardware reset (R230): every hardware field takes its reset value (R44), READY the level drawn, the buffer becomes
unspecified; the observation stays and gains RESET, and the environment's inputs stay its own. Log entry 6. -/
def hardwareReset (p : Params) (ready : Bool) (s : State) : State :=
  record .reset
    { State.powerOn p with
      readyIn := ready
      bufEpoch := s.bufEpoch + 1
      hist := s.hist
      out := s.out
      responses := s.responses
      moves := s.moves
      port := s.port
      draws := s.draws }

/-! ## Fetching -/

/-- The environment's move is made. -/
def dropMove (s : State) : State := { s with moves := s.moves.tail }

/-- The draw `resources_ok` is taken: afresh at each BIND (R181). -/
def dropDraw (s : State) : State := { s with draws := s.draws.tail }

/-- The control port takes `n` words (R76, R180). -/
def dropPort (n : Nat) (s : State) : State := { s with port := s.port.drop n }

/-- The step an agent's word names (R70): a word of PERIPH, EDGE, WORKER or BUS. Any other word names no step of an
agent. Log entry 11. -/
def agentStep (w : Word) : Option Instr :=
  match decode [w] with
  | .ok (i, _) => if i.agent = .host then none else some i
  | .error _ => none

/-- The command on the control port: a word that decodes to a host-class operation (R79). -/
def portCommand (s : State) : Option Instr :=
  match decode (portWords s) with
  | .ok (i, _) => if i.agent = .host then some i else none
  | .error _ => none

/-- The port's answer to an INVALID or non-host-class word (R79, R185): ERR_CMD with data 0, the one word consumed,
nothing else changed. Log entry 10. -/
def rejectCommand (s : State) : State := respond .errCmd 0#32 (dropPort 1 s)

/-- What one move of the environment does to an engine whose operations mean `run` and whose reset is `reset`. HOST's
move: the command at the port is taken off it and executed in the same step (R180), and a word that is no command is
answered ERR_CMD (R79). An agent's move: the step its word names; a word that names no step of an agent moves nothing
(log entry 11). Hardware reset falls between two steps of the agents (R230). -/
def makeMove (run : Instr → State → Outcome) (reset : Bool → State → State) (m : Move) (s : State) : Outcome :=
  match m with
  | .host =>
    match portCommand s with
    | some i => run i (dropPort i.wordCount s)
    | none => .next (rejectCommand s)
  | .agent w =>
    match agentStep w with
    | some i => run i s
    | none => .next s
  | .hardwareReset ready => .next (reset ready s)

/-- The words of the instruction whose bits are `w` that the instruction takes (R76). -/
def instructionWords (nbits w : Nat) : List Word :=
  (tableWords nbits w).take (wordCountOf (BitVec.ofNat 32 (w % 2 ^ nbits)))

end Sys2Proof.Machine
end

