-- ==== Sys2Proof/Machine/BusTransfer.lean ====
section
/-! DEFINITION. The Bus Transfer Primitive (42_bus_transfer.md): READ_BLOCK, BUS_BYTE, BUS_END, BUS_ERROR. -/

namespace Sys2Proof.Machine

/-- READ_BLOCK (R110): the transaction starts and the worker is blocked until the BUS agent ends it. -/
def execReadBlock (s : State) : Outcome :=
  guarded .readBlock s
    (.next (record (.op (opWord .readBlock)) { s with csActive := true, busCount := 0#32, phase := .reading }))

/-- BUS_BYTE (R111) under the parameters `p`: the byte lands at `BUF[bus_count]`. -/
def execBusByteWith (p : Params) (b : Byte) (s : State) : Outcome :=
  guarded (.busByte b) s
    (match memWrite p s.busCount.toNat b s with
    | some t => .next (record (.busByte (opWord (.busByte b)) b) { t with busCount := s.busCount + 1#32 })
    | none => .fault .bufferRange)

/-- BUS_BYTE (R111). -/
def execBusByte (b : Byte) (s : State) : Outcome := execBusByteWith Config.engine b s

/-- BUS_END (R112): all bytes received. -/
def execBusEnd (s : State) : Outcome :=
  guarded .busEnd s
    (.next (record (.op (opWord .busEnd)) { s with csActive := false, phase := .readDone }))

/-- BUS_ERROR (R113): the transaction failed; the bytes received and their count stay. -/
def execBusError (s : State) : Outcome :=
  guarded .busError s
    (.next (record (.op (opWord .busError)) { s with csActive := false, phase := .readFailed }))

end Sys2Proof.Machine
end

