-- ==== Sys2Proof/Machine/CrcValidator.lean ====
section
/-! DEFINITION. The CRC Validator (43_crc_validator.md): CRC_VALIDATE. -/

namespace Sys2Proof.Machine

/-- What CRC_VALIDATE does to the block (R132) under the parameters `p`. -/
def validateBlock (p : Params) (s : State) : Outcome :=
  match memRead p s 0 (payloadLen s), loadField p s (payloadLen s) with
  | some payload, some received =>
    .next (record (.op (opWord .crcValidate)) { latchVerdict p payload received s with phase := .deliver })
  | _, _ => .fault .bufferRange

/-- CRC_VALIDATE (R132) under the parameters `p`. -/
def execCrcValidateWith (p : Params) (s : State) : Outcome := guarded .crcValidate s (validateBlock p s)

/-- CRC_VALIDATE (R132). -/
def execCrcValidate (s : State) : Outcome := execCrcValidateWith Config.engine s

end Sys2Proof.Machine
end

