-- ==== Sys2Proof/Machine/Handshake.lean ====
section
/-! DEFINITION. The Handshake Controller (41_handshake.md): ASSERT_BUSY and DEASSERT_BUSY. -/

namespace Sys2Proof.Machine

/-- ASSERT_BUSY (R100). -/
def execAssertBusy (s : State) : Outcome :=
  guarded .assertBusy s
    (.next (record (.op (opWord .assertBusy)) { s with busyOut := true, phase := .asserted }))

/-- DEASSERT_BUSY (R102): BUSY falls on both outcomes of the read; on failure the bus failure is latched and the CRC is
skipped (R173). -/
def execDeassertBusy (s : State) : Outcome :=
  guarded .deassertBusy s
    (if s.phase = .readDone then
      .next (record (.op (opWord .deassertBusy)) { s with busyOut := false, phase := .validate })
    else
      .next (record (.op (opWord .deassertBusy))
        (latch .busError 0#32 0#32 { s with busyOut := false, phase := .deliver })))

end Sys2Proof.Machine
end

