-- ==== Sys2Proof/Machine/Lifecycle.lean ====
section
/-! DEFINITION. The lifecycle and the control port (45_lifecycle.md): BIND, UNBIND, REG_READ, REG_WRITE. Each is one
atomic step and gives exactly one response (R180). -/

namespace Sys2Proof.Machine

/-- BIND refuses its configuration or has no resources (R181, R203). -/
def bindRefused (p : Params) (ok : Bool) (s : State) : Bool :=
  decide (s.cfgClkHz = 0#32) || !lengthFits p s.cfgPayloadLen || !ok

/-- BIND (R181) under the parameters `p`: the state check first, then configuration and resources (R210). -/
def execBindWith (p : Params) (s : State) : Outcome :=
  if s.bound then .next (reply (.bind (opWord .bind) (resourcesOk s)) .errState 0#32 (dropDraw s))
  else if bindRefused p (resourcesOk s) s then
    .next (reply (.bind (opWord .bind) (resourcesOk s)) .errBind 0#32 (dropDraw s))
  else .next (reply (.bind (opWord .bind) (resourcesOk s)) .ok 0#32 (openSession (dropDraw s)))

/-- BIND (R181). -/
def execBind (s : State) : Outcome := execBindWith Config.engine s

/-- UNBIND (R182): at once in Idle, at the attempt's DELIVER otherwise. -/
def execUnbind (s : State) : Outcome :=
  if !s.bound || s.unbinding then .next (reply (.unbind (opWord .unbind)) .errState 0#32 s)
  else if s.phase = .idle then .next (reply (.unbind (opWord .unbind)) .ok 0#32 (teardown s))
  else .next (reply (.unbind (opWord .unbind)) .pending 0#32 (deferUnbind s))

/-- REG_READ (R183) under the parameters `p`: allowed in every lifecycle state. -/
def execRegReadWith (p : Params) (r : Word) (s : State) : Outcome :=
  match regOfNumber r with
  | some reg => .next (reply (.regRead (opWord (.regRead r))) .ok (readControlReg p s reg) s)
  | none => .next (reply (.regRead (opWord (.regRead r))) .errReg 0#32 s)

/-- REG_READ (R183). -/
def execRegRead (r : Word) (s : State) : Outcome := execRegReadWith Config.engine r s

/-- What a register write answers and leaves (R184): the read-only check comes before the state check. -/
def writeControlReg (r v : Word) (s : State) : RespCode × State :=
  match regOfNumber r with
  | some .cfgClkHz => if s.bound then (.errState, s) else (.ok, { s with cfgClkHz := v })
  | some .cfgPayloadLen => if s.bound then (.errState, s) else (.ok, { s with cfgPayloadLen := v })
  | some .status | some .blockLen | some .bufCapacity | some .xferCount | none => (.errReg, s)

/-- REG_WRITE (R184). -/
def execRegWrite (r v : Word) (s : State) : Outcome :=
  .next (reply (.regWrite (opWord (.regWrite r v)) v) (writeControlReg r v s).1 0#32 (writeControlReg r v s).2)

end Sys2Proof.Machine
end

