-- ==== Sys2Proof/Machine/Orchestrator.lean ====
section
/-! DEFINITION. The Edge-Triggered Transfer Orchestrator (44_orchestrator.md): READY_HIGH, READY_LOW, EDGE_SAMPLE, TAKE,
DELIVER. -/

namespace Sys2Proof.Machine

/-- READY_HIGH (R150). -/
def execReadyHigh (s : State) : Outcome :=
  guarded .readyHigh s (.next (record (.op (opWord .readyHigh)) { s with readyIn := true }))

/-- READY_LOW (R151). -/
def execReadyLow (s : State) : Outcome :=
  guarded .readyLow s (.next (record (.op (opWord .readyLow)) { s with readyIn := false }))

/-- EDGE_SAMPLE (R152): a rising edge sets the notification, in which edges coalesce (R154). -/
def execEdgeSample (s : State) : Outcome :=
  guarded .edgeSample s
    (.next (record (.op (opWord .edgeSample))
      { s with
        pending := s.pending || (!s.readyPrev && s.readyIn)
        readyPrev := s.readyIn }))

/-- TAKE (R156): the entry into an attempt. -/
def execTake (s : State) : Outcome :=
  guarded .take s (.next (record (.op (opWord .take)) (enterAttempt s)))

/-- DELIVER (R175) under the parameters `p`: the return from an attempt. -/
def execDeliverWith (p : Params) (s : State) : Outcome :=
  guarded .deliver s
    (match latchedResult p s with
    | .ok r => .next (record (.deliver (opWord .deliver) r) (leaveAttempt r s))
    | .error f => .fault f)

/-- DELIVER (R175). -/
def execDeliver (s : State) : Outcome := execDeliverWith Config.engine s

end Sys2Proof.Machine
end

