-- ==== Sys2Proof/Machine/Dispatch.lean ====
section
/-! DEFINITION. One arm per operation. -/

namespace Sys2Proof.Machine

/-- The meaning of each operation. -/
def exec (i : Instr) (s : State) : Host.Outcome State Fault Refusal :=
  match i with
  | .bind => Sys2Proof.Machine.execBind s
  | .unbind => Sys2Proof.Machine.execUnbind s
  | .regRead r => Sys2Proof.Machine.execRegRead r s
  | .regWrite r data => Sys2Proof.Machine.execRegWrite r data s
  | .readyLow => Sys2Proof.Machine.execReadyLow s
  | .readyHigh => Sys2Proof.Machine.execReadyHigh s
  | .edgeSample => Sys2Proof.Machine.execEdgeSample s
  | .take => Sys2Proof.Machine.execTake s
  | .assertBusy => Sys2Proof.Machine.execAssertBusy s
  | .readBlock => Sys2Proof.Machine.execReadBlock s
  | .deassertBusy => Sys2Proof.Machine.execDeassertBusy s
  | .crcValidate => Sys2Proof.Machine.execCrcValidate s
  | .deliver => Sys2Proof.Machine.execDeliver s
  | .busByte b => Sys2Proof.Machine.execBusByte b s
  | .busError => Sys2Proof.Machine.execBusError s
  | .busEnd => Sys2Proof.Machine.execBusEnd s

end Sys2Proof.Machine
end

