-- ==== Sys2Proof/Machine/Step.lean ====
section
/-! DEFINITION. One step of the engine and its environment: the move the environment makes next (R14), which is a step of
an agent, a command the control port takes, or hardware reset. -/

namespace Sys2Proof.Machine

/-- What one move of the environment does to this engine (R14, R180, R230). -/
def stepMove (m : Move) (s : State) : Host.Outcome State Fault Refusal :=
  makeMove exec (hardwareReset Config.engine) m s

/-- One step: the environment's next move is made (R14). -/
def step (s : State) : Host.Outcome State Fault Refusal := stepMove (nextMove s) (dropMove s)

/-- The state with an instruction placed where the next step fetches: the word of a step of PERIPH, EDGE, WORKER or BUS
as the next move; any other word on the control port, with HOST's turn as the next move. Log entry 11. -/
def State.withFetchWord (s : State) (nbits w : Nat) : State :=
  match agentStep (BitVec.ofNat 32 (w % 2 ^ nbits)) with
  | some _ => { s with moves := s.moves.push [.agent (BitVec.ofNat 32 (w % 2 ^ nbits))] }
  | none => { s with moves := s.moves.push [.host], port := s.port.push (instructionWords nbits w) }

end Sys2Proof.Machine
end

