-- ==== Sys2Proof/Machine/Asm.lean ====
section
/-! DEFINITION. The assembly syntax (R84) and the pseudo-instructions (R85): notation for lists of operations, which the
engine itself never reads. Log entry 20. -/

namespace Sys2Proof.Machine

/-! ## Pseudo-instructions -/

/-- The pseudo-instructions of R85. -/
inductive Pseudo where
  | config (clk len : Word)
  | rise
  | fall
  | rx (bytes : List Byte)
  | attempt (bytes : List Byte)
  | attemptFail (bytes : List Byte)
  deriving DecidableEq, Repr

/-- `RX b0, ..., bn-1` (R85). -/
def expandRx (bytes : List Byte) : List Instr := bytes.map .busByte ++ [.busEnd]

/-- The expansion of a pseudo-instruction into its operations (R85). -/
def expandPseudo : Pseudo → List Instr
  | .config clk len =>
    [.regWrite (regNumber .cfgClkHz) clk, .regWrite (regNumber .cfgPayloadLen) len]
  | .rise => [.readyHigh, .edgeSample]
  | .fall => [.readyLow, .edgeSample]
  | .rx bytes => expandRx bytes
  | .attempt bytes =>
    [.take, .assertBusy, .readBlock] ++ expandRx bytes ++ [.deassertBusy, .crcValidate, .deliver]
  | .attemptFail bytes =>
    [.take, .assertBusy, .readBlock] ++ bytes.map .busByte ++ [.busError, .deassertBusy, .deliver]

/-! ## Lines -/

/-- One assembled line: its operations in order, and the draw a `BIND ok` or `BIND fail` notes (R84). -/
structure AsmLine where
  ops : List Instr
  draw : Option Bool
  deriving DecidableEq, Repr

/-- The words a line assembles to (R84). -/
def AsmLine.words (l : AsmLine) : List Word := l.ops.flatMap encode

/-- A line up to its comment, cut at spaces, tabs and commas (R84). -/
def asmTokens (line : List Char) : List (List Char) :=
  ((line.takeWhile (· ≠ '#')).splitOnP fun c => c = ' ' || c = '\t' || c = ',').filter (· ≠ [])

/-- A digit's value in a base up to 16. -/
def digitValue (base : Nat) (c : Char) : Option Nat :=
  let n := c.toNat
  let v := if 48 ≤ n ∧ n ≤ 57 then n - 48
    else if 97 ≤ n ∧ n ≤ 102 then n - 87
    else if 65 ≤ n ∧ n ≤ 70 then n - 55
    else 16
  if v < base then some v else none

/-- The value of a string of digits, continuing from `acc`. -/
def digitsValue (base : Nat) : Nat → List Char → Option Nat
  | acc, [] => some acc
  | acc, c :: cs =>
    match digitValue base c with
    | some d => digitsValue base (acc * base + d) cs
    | none => none

/-- A number, decimal or with the prefix 0x (R84). -/
def asmNumber (t : List Char) : Option Nat :=
  match t with
  | '0' :: 'x' :: d :: ds => digitsValue 16 0 (d :: ds)
  | d :: ds => digitsValue 10 0 (d :: ds)
  | [] => none

/-- A number that fits in `n` bits. -/
def asmBits (n : Nat) (t : List Char) : Option (BitVec n) :=
  match asmNumber t with
  | some v => if v < 2 ^ n then some (BitVec.ofNat n v) else none
  | none => none

/-- The register names (R31, R84). -/
def asmRegName (t : List Char) : Option ControlReg :=
  if t = "STATUS".toList then some .status
  else if t = "CFG_CLK_HZ".toList then some .cfgClkHz
  else if t = "CFG_PAYLOAD_LEN".toList then some .cfgPayloadLen
  else if t = "BLOCK_LEN".toList then some .blockLen
  else if t = "BUF_CAPACITY".toList then some .bufCapacity
  else if t = "XFER_COUNT".toList then some .xferCount
  else none

/-- A register operand: a name or an 8-bit number (R84, R75). -/
def asmReg (t : List Char) : Option Word :=
  match asmRegName t with
  | some reg => some (regNumber reg)
  | none => (asmBits 8 t).map (·.setWidth 32)

/-- All of a list of byte operands. -/
def asmBytes (ts : List (List Char)) : Option (List Byte) := ts.mapM (asmBits 8)

/-- The operations that take no operand, by mnemonic. -/
def asmPlain (m : List Char) : Option Instr :=
  [Instr.unbind, .readyLow, .readyHigh, .edgeSample, .take, .assertBusy, .readBlock, .deassertBusy,
    .crcValidate, .deliver, .busError, .busEnd].find? fun i => i.mnemonic.toList = m

/-- A pseudo-instruction from its tokens (R85). -/
def asmPseudo (m : List Char) (ts : List (List Char)) : Option Pseudo :=
  if m = "CONFIG".toList then
    match ts with
    | [clk, len] =>
      match asmBits 32 clk, asmBits 32 len with
      | some c, some l => some (.config c l)
      | _, _ => none
    | _ => none
  else if m = "RISE".toList ∧ ts = [] then some .rise
  else if m = "FALL".toList ∧ ts = [] then some .fall
  else if m = "RX".toList then (asmBytes ts).map .rx
  else if m = "ATTEMPT".toList then (asmBytes ts).map .attempt
  else if m = "ATTEMPT_FAIL".toList then (asmBytes ts).map .attemptFail
  else none

/-- An operation that takes operands, or a BIND with the note of its draw, from its tokens (R84). -/
def asmOperation (m : List Char) (ts : List (List Char)) : Option AsmLine :=
  if m = "BIND".toList then
    match ts with
    | [t] =>
      if t = "ok".toList then some ⟨[.bind], some true⟩
      else if t = "fail".toList then some ⟨[.bind], some false⟩
      else none
    | _ => none
  else if m = "REG_READ".toList then
    match ts with
    | [r] => (asmReg r).map fun r => ⟨[.regRead r], none⟩
    | _ => none
  else if m = "REG_WRITE".toList then
    match ts with
    | [r, v] =>
      match asmReg r, asmBits 32 v with
      | some r, some v => some ⟨[.regWrite r v], none⟩
      | _, _ => none
    | _ => none
  else if m = "BUS_BYTE".toList then
    match ts with
    | [b] => (asmBits 8 b).map fun b => ⟨[.busByte b], none⟩
    | _ => none
  else none

/-- Assembles one line (R84): none where the line is not of the syntax; a line with no token has no operation. -/
def assembleLine (line : List Char) : Option AsmLine :=
  match asmTokens line with
  | [] => some ⟨[], none⟩
  | m :: ts =>
    match asmPlain m, ts with
    | some i, [] => some ⟨[i], none⟩
    | some _, _ :: _ => none
    | none, ts =>
      match asmOperation m ts with
      | some l => some l
      | none => (asmPseudo m ts).map fun p => ⟨expandPseudo p, none⟩

end Sys2Proof.Machine
end

