-- ==== Sys2Proof/Machine/Configured.lean ====
section
/-! DEFINITION. The machine over the parameters of R7, each of them an argument. This engine is the machine at the
defaults `Config.engine` (log entry 13). -/

namespace Sys2Proof.Machine

/-- The meaning of each operation under the parameters `p`: those whose rule names a parameter take them. -/
def execWith (p : Params) (i : Instr) (s : State) : Outcome :=
  match i with
  | .bind => execBindWith p s
  | .unbind => execUnbind s
  | .regRead r => execRegReadWith p r s
  | .regWrite r data => execRegWrite r data s
  | .readyLow => execReadyLow s
  | .readyHigh => execReadyHigh s
  | .edgeSample => execEdgeSample s
  | .take => execTake s
  | .assertBusy => execAssertBusy s
  | .readBlock => execReadBlock s
  | .deassertBusy => execDeassertBusy s
  | .crcValidate => execCrcValidateWith p s
  | .deliver => execDeliverWith p s
  | .busByte b => execBusByteWith p b s
  | .busError => execBusError s
  | .busEnd => execBusEnd s

/-- One move under the parameters `p` (R14, R180, R230). -/
def stepMoveWith (p : Params) (m : Move) (s : State) : Outcome := makeMove (execWith p) (hardwareReset p) m s

/-- One step under the parameters `p` (R14). -/
def stepWith (p : Params) (s : State) : Outcome := stepMoveWith p (nextMove s) (dropMove s)

/-- The machine of the parameters `p`. -/
def machine (p : Params) : Host.Core :=
  { State := State, Fault := Fault, Refusal := Refusal, step := stepWith p, reset := State.powerOn p }

end Sys2Proof.Machine
end

