-- ==== Sys2Proof/Safety.lean ====
section
/-! DEFINITION. What counts as a safe run, in the terms the claims use: the invariants of R45 and what they rest on, the
observation's well-formedness, the length of an attempt (R163), runs and weak fairness (D2). -/

namespace Sys2Proof.Machine

/-! ## Sequences of operations -/

/-- The operations executed one after the other, stopping at the first that does not answer a next state. -/
def execAll : List Instr → State → Outcome
  | [], s => .next s
  | i :: is, s =>
    match exec i s with
    | .next t => execAll is t
    | .fault f => .fault f
    | .refused r => .refused r

/-- The checksum field of a block of bytes with `L` payload bytes, as the engine reads it (R51, R131). -/
def fieldOfBlock (p : Params) (L : Nat) (block : List Byte) : Word :=
  load32 p.chkByteOrder (block.getD L 0#8) (block.getD (L + 1) 0#8) (block.getD (L + 2) 0#8)
    (block.getD (L + 3) 0#8)

/-- The Transfer Result a fully received block earns (R134, R135). -/
def verdict (p : Params) (L : Nat) (block : List Byte) : TransferResult :=
  if crc32be p (block.take L) = fieldOfBlock p L block then .ok (block.take L)
  else .mismatch (crc32be p (block.take L)) (fieldOfBlock p L block)

/-- `be4(c)`: the four bytes of a word, most significant first (R136). -/
def be4 (c : Word) : List Byte :=
  [c.extractLsb' 24 8, c.extractLsb' 16 8, c.extractLsb' 8 8, c.extractLsb' 0 8]

/-! ## The history -/

/-- An event names the step it records: its word decodes to that operation (R70, R80). -/
def eventWellFormed : Event → Bool
  | .op w => match agentStep w with
    | some (.busByte _) | some .deliver | none => false
    | some _ => true
  | .busByte w b => decide (agentStep w = some (.busByte b))
  | .deliver w _ => decide (agentStep w = some .deliver)
  | .bind w _ _ => decide (decode [w] = .ok (.bind, []))
  | .unbind w _ => decide (decode [w] = .ok (.unbind, []))
  | .regRead w _ => match decode [w] with
    | .ok (.regRead _, _) => true
    | _ => false
  | .regWrite w data _ => match decode [w, data] with
    | .ok (.regWrite _ d, _) => decide (d = data)
    | _ => false
  | .reset => true

/-- The operation word of an event; RESET has none (R72, R230). -/
def eventWord : Event → Option Word
  | .op w | .busByte w _ | .deliver w _ | .bind w _ _ | .unbind w _ | .regRead w _ | .regWrite w _ _ => some w
  | .reset => none

/-- ASSERT_BUSY events less DEASSERT_BUSY events since the last reset (R45 I7). -/
def busyBalance (hist : List Event) : Int :=
  hist.foldl (fun n e => match e with
    | .reset => 0
    | .op w => if w = opWord .assertBusy then n + 1 else if w = opWord .deassertBusy then n - 1 else n
    | _ => n) 0

/-- A bracket is open after a history, closed, or was opened or closed out of turn (none). -/
def bracketStep (opens closes : Event → Bool) (b : Option Bool) (e : Event) : Option Bool :=
  match b with
  | none => none
  | some isOpen =>
    if e = .reset then some false
    else if opens e then (if isOpen then none else some true)
    else if closes e then (if isOpen then some false else none)
    else some isOpen

/-- ASSERT_BUSY and DEASSERT_BUSY alternate between two resets, ASSERT_BUSY first (R103). -/
def busyBracket (hist : List Event) : Option Bool :=
  hist.foldl (bracketStep (fun e => e = .op (opWord .assertBusy)) fun e => e = .op (opWord .deassertBusy))
    (some false)

/-- DELIVER is the event. -/
def isDeliver : Event → Bool
  | .deliver _ _ => true
  | _ => false

/-- TAKE and DELIVER alternate between two resets, TAKE first (R161, R212). -/
def attemptBracket (hist : List Event) : Option Bool :=
  hist.foldl (bracketStep (fun e => e = .op (opWord .take)) isDeliver) (some false)

/-- The results the DELIVER events of a history carry, in order. -/
def delivered (hist : List Event) : List TransferResult :=
  hist.filterMap fun e => match e with
    | .deliver _ r => some r
    | _ => none

/-- The responses the command events of a history carry, in order. -/
def answers (hist : List Event) : List Response :=
  hist.filterMap fun e => match e with
    | .bind _ _ r | .unbind _ r | .regRead _ r | .regWrite _ _ r => some r
    | _ => none

/-! ## Invariants -/

/-- The phases in which BUSY is high (R45 I2, R104). -/
def busyPhase (ph : Phase) : Bool :=
  match ph with
  | .asserted | .reading | .readDone | .readFailed => true
  | .idle | .taken | .validate | .deliver => false

/-- Every byte of the block received so far is listed in the buffer (R63, R69). -/
def received (s : State) (n : Nat) : Prop := ∀ a, a < n → (Memory.find a s.buf).isSome = true

/-- What a Transfer Result promises (R83, R133, R181). -/
def resultSound (p : Params) : TransferResult → Prop
  | .ok payload => payload.length + 4 ≤ p.bufCapacity
  | .busError => True
  | .mismatch expected got => expected ≠ got

/-- The invariants I1 to I7 of R45, and what the other rules add about every reachable state, under the parameters `p`. -/
structure EngineInvWith (p : Params) (s : State) : Prop where
  /-- I1. -/
  unbound : s.bound = false →
    s.phase = .idle ∧ s.pending = false ∧ s.busyOut = false ∧ s.csActive = false ∧ s.unbinding = false
  /-- I2. -/
  busy : s.busyOut = busyPhase s.phase
  /-- I3. -/
  chipSelect : s.csActive = true ↔ s.phase = .reading
  /-- I4, first half. -/
  count : s.phase = .reading → s.busCount ≤ blockLen s
  /-- I4, second half, with BLOCK_LEN = CFG_PAYLOAD_LEN + 4 unwrapped (R9, R181). Log entry 16. -/
  length : s.bound = true → lengthFits p s.cfgPayloadLen = true
  /-- I5. -/
  latched : s.resKind = .none ↔ s.phase ≠ .deliver
  /-- I6. -/
  unbinding : s.unbinding = true → s.bound = true ∧ s.phase ≠ .idle ∧ s.pending = false
  /-- I7. -/
  balance : busyBalance s.hist = if busyPhase s.phase then 1 else 0
  /-- R103. -/
  busyPairs : busyBracket s.hist = some (busyPhase s.phase)
  /-- R161, R212. -/
  attemptPairs : attemptBracket s.hist = some (transferring s)
  /-- R20: `res_expected` and `res_received` hold a value only with MISMATCH. -/
  latchClear : s.resKind ≠ .mismatch → s.resExpected = 0#32 ∧ s.resReceived = 0#32
  /-- R135: a MISMATCH is one. -/
  latchMismatch : s.resKind = .mismatch → s.resExpected ≠ s.resReceived
  /-- R135: an OK is one. -/
  latchOk : s.resKind = .ok → ∃ payload, memRead p s 0 (payloadLen s) = some payload
    ∧ loadField p s (payloadLen s) = some (crc32be p payload)
  /-- R112: after BUS_END the whole block has been received. -/
  complete : s.phase = .readDone ∨ s.phase = .validate ∨ s.resKind = .ok → s.busCount = blockLen s
  /-- R63, R69: CRC_VALIDATE and DELIVER read bytes of the attempt's own transaction only. -/
  known : s.phase = .reading ∨ s.phase = .readDone ∨ s.phase = .validate ∨ s.resKind = .ok →
    received s s.busCount.toNat
  /-- R50: the buffer's canonical form. -/
  memory : Memory.wf p s.buf = true
  /-- R80. -/
  history : ∀ e ∈ s.hist, eventWellFormed e = true
  /-- R176: one result for each DELIVER, in order. -/
  results : delivered s.hist = s.out
  /-- R83, R133. -/
  sound : ∀ r ∈ s.out, resultSound p r
  /-- R82, R180: one response for each command, in order; ERR_CMD answers words that are no command (R79). -/
  answered : s.responses.filter (fun r => r.code ≠ .errCmd) = answers s.hist

/-- The invariants of this engine, its parameters at their defaults. -/
abbrev EngineInv (s : State) : Prop := EngineInvWith Config.engine s

/-! ## The length of an attempt -/

/-- The most worker and bus steps an attempt still takes, DELIVER included (R163). -/
def attemptBudget (s : State) : Nat :=
  match s.phase with
  | .idle => 0
  | .taken => (blockLen s).toNat + 6
  | .asserted => (blockLen s).toNat + 5
  | .reading => (blockLen s).toNat - s.busCount.toNat + 4
  | .readDone => 3
  | .readFailed => 2
  | .validate => 2
  | .deliver => 1

/-! ## What an attempt depends on -/

/-- Two states agree on everything the worker and the bus work with; READY, the edge detector, the notification, the clock
rate, the observation and the environment's inputs may differ (R157, R160). -/
def sameAttempt (s t : State) : Prop :=
  s.bound = t.bound ∧ s.unbinding = t.unbinding ∧ s.phase = t.phase ∧ s.busyOut = t.busyOut
    ∧ s.csActive = t.csActive ∧ s.busCount = t.busCount ∧ s.resKind = t.resKind
    ∧ s.resExpected = t.resExpected ∧ s.resReceived = t.resReceived ∧ s.cfgPayloadLen = t.cfgPayloadLen
    ∧ s.buf = t.buf ∧ s.bufEpoch = t.bufEpoch

/-! ## Runs and fairness -/

/-- An infinite run of the engine under a schedule of moves: each move is answered by a next state. -/
def isRun (sched : Nat → Move) (run : Nat → State) : Prop :=
  ∀ n, stepMove (sched n) (run n) = .next (run (n + 1))

/-- Some step of an agent is enabled. -/
def agentEnabled (a : Agent) (s : State) : Prop := ∃ i, i.agent = a ∧ enabled i s = true

/-- The move is an enabled step of the agent. -/
def agentMoves (a : Agent) (m : Move) (s : State) : Prop :=
  ∃ w i, m = .agent w ∧ agentStep w = some i ∧ i.agent = a ∧ enabled i s = true

/-- Weak fairness of an agent (D2): if from some step on the agent always has an enabled step, it takes one. The model
does not impose it (log entry 12). -/
def weaklyFair (a : Agent) (sched : Nat → Move) (run : Nat → State) : Prop :=
  ∀ n, (∀ m, n ≤ m → agentEnabled a (run m)) → ∃ m, n ≤ m ∧ agentMoves a (sched m) (run m)

end Sys2Proof.Machine
end

