-- ==== Sys2Proof/Certificates/Slice0/Obligations.lean ====
section
/-! DEFINITION. The statements for the provers, rule by rule. A state written `{ s with … }` says the whole frame: every
field not named is unchanged. -/

open Sys2Proof Sys2Proof.Machine

/-! ## Encoding (30_encoding.md) -/

/-- R71, R74-R77: decoding the words of a well-formed operation gives it back, whatever words follow. -/
def Obligations.DecodeOfEncodeGivesOperationBack : Prop :=
  ∀ (i : Instr) (rest : List Word), i.wellFormed = true → decode (encode i ++ rest) = .ok (i, rest)

/-- R76, R77: what decodes is well formed, and its words are the ones that were read. -/
def Obligations.EncodeOfDecodeGivesWordsBack : Prop :=
  ∀ (ws : List Word) (i : Instr) (rest : List Word), decode ws = .ok (i, rest) →
    i.wellFormed = true ∧ ws = encode i ++ rest

/-- R74: a word that a row covers under its mask decodes, to that row's operation; what decodes matches a row of its
operation; a word matching no row is INVALID; no word matches two rows. The word after it is DATA if it is needed. -/
def Obligations.WordDecodesAsTheRowItMatches : Prop :=
  (∀ row ∈ opcodeMap, ∀ w data : Word, row.covers w = true →
    ∃ i rest, decode [w, data] = .ok (i, rest) ∧ i.mnemonic = row.mnemonic ∧ i.agent = row.agent)
  ∧ (∀ w data i rest, decode [w, data] = .ok (i, rest) →
    ∃ row ∈ opcodeMap, row.covers w = true ∧ row.mnemonic = i.mnemonic ∧ row.agent = i.agent)
  ∧ (∀ w data, (∀ row ∈ opcodeMap, row.covers w = false) → ∃ e, decode [w, data] = .error e)
  ∧ (∀ w, ∀ r1 ∈ opcodeMap, ∀ r2 ∈ opcodeMap, r1.covers w = true → r2.covers w = true → r1 = r2)
  ∧ opcodeMap.length = 16

/-- R78: the reserved encodings, each of which decodes to INVALID, and no others. -/
def Obligations.ReservedEncodingsAndOnlyTheyAreInvalid : Prop :=
  (∀ w data : Word, (∃ e, decode [w, data] = .error e) ↔
    (w.extractLsb' 0 8 = 0#8
      ∨ (0x05 ≤ w.toNat % 256 ∧ w.toNat % 256 ≤ 0x0F)
      ∨ (0x12 ≤ w.toNat % 256 ∧ w.toNat % 256 ≤ 0x1F)
      ∨ (0x21 ≤ w.toNat % 256 ∧ w.toNat % 256 ≤ 0x2F)
      ∨ (0x36 ≤ w.toNat % 256 ∧ w.toNat % 256 ≤ 0x3F)
      ∨ (0x43 ≤ w.toNat % 256 ∧ w.toNat % 256 ≤ 0x4F)
      ∨ 0x50 ≤ w.toNat % 256
      ∨ w.extractLsb' 16 16 ≠ 0#16
      ∨ (w.extractLsb' 8 8 ≠ 0#8 ∧ w.extractLsb' 0 8 ≠ 0x03#8 ∧ w.extractLsb' 0 8 ≠ 0x04#8
          ∧ w.extractLsb' 0 8 ≠ 0x40#8)))
  ∧ ∀ rest, ∃ e, decode (0#32 :: rest) = .error e

/-- Words written out from R71 and R74, at least one of each class, decode to the operations they stand for; one INVALID
word does not. -/
def Obligations.SpecWordsDecode : Prop :=
  decode [0x00000001#32] = .ok (.bind, []) ∧ decode [0x00000303#32] = .ok (.regRead 3#32, [])
  ∧ decode [0x00000104#32, 0x000F4240#32] = .ok (.regWrite 1#32 1000000#32, [])
  ∧ decode [0x00000010#32] = .ok (.readyLow, []) ∧ decode [0x00000011#32] = .ok (.readyHigh, [])
  ∧ decode [0x00000020#32] = .ok (.edgeSample, []) ∧ decode [0x00000030#32] = .ok (.take, [])
  ∧ decode [0x0000DE40#32] = .ok (.busByte 0xDE#8, []) ∧ decode [0x00000042#32] = .ok (.busEnd, [])
  ∧ decode [0x00000034#32] = .ok (.crcValidate, []) ∧ decode [0x00000101#32] = .error (.argNotZero 1#8)

/-! ## A step runs the decoded operation -/

/-- R70, R86: an agent's move runs the step its word decodes to. The move is taken off the schedule; `dropMove` changes
`moves` alone. -/
def Obligations.AgentMoveRunsTheDecodedStep : Prop :=
  ∀ s w i, nextMove s = .agent w → decode [w] = .ok (i, []) → i.agent ≠ .host →
    step s = exec i { s with moves := s.moves.tail }

/-- R180: HOST's move takes the command at the port, with the DATA word if it is a REG_WRITE, and runs it in the same
step. -/
def Obligations.HostMoveRunsTheDecodedCommand : Prop :=
  ∀ s i rest, nextMove s = .host → decode (portWords s) = .ok (i, rest) → i.agent = .host →
    step s = exec i { s with moves := s.moves.tail, port := s.port.drop (encode i).length }

/-- R185: an INVALID or non-host-class word on the control port responds ERR_CMD with data 0 and changes no state; one
word is consumed, no DATA word. -/
def Obligations.InvalidCommandRespondsErrCmd : Prop :=
  ∀ s, nextMove s = .host →
    (∀ i rest, decode (portWords s) = .ok (i, rest) → i.agent ≠ .host) →
    step s = .next { s with
      moves := s.moves.tail
      port := s.port.tail
      responses := s.responses ++ [{ code := .errCmd, data := 0#32 }] }

/-- The model's choice (log entry 2) for R14's "A step is enabled only when its guard holds": a step whose guard is false
does not happen. -/
def Obligations.StepWithFalseGuardDoesNotHappen : Prop :=
  ∀ i s, enabled i s = false → exec i s = .next s

/-- R15, R72: a step that happens appends exactly one entry, with its operation word, to the history. -/
def Obligations.StepThatHappensIsRecorded : Prop :=
  ∀ i s t, enabled i s = true → exec i s = .next t →
    ∃ e, t.hist = s.hist ++ [e] ∧ eventWord e = some (opWord i)

/-! ## READY and the edge detector (44_orchestrator.md) -/

/-- R150: READY_HIGH. -/
def Obligations.ReadyHighRaisesReady : Prop :=
  encode .readyHigh = [0x00000011#32] ∧
  ∀ s, (enabled .readyHigh s = true ↔ s.readyIn = false) ∧
    (s.readyIn = false →
      ∃ t, exec .readyHigh s = .next t
        ∧ t = { s with readyIn := true, hist := s.hist ++ [.op 0x00000011#32] }
        ∧ (statusWord t).getLsbD 4 = true)

/-- R151: READY_LOW. -/
def Obligations.ReadyLowLowersReady : Prop :=
  encode .readyLow = [0x00000010#32] ∧
  ∀ s, (enabled .readyLow s = true ↔ s.readyIn = true) ∧
    (s.readyIn = true →
      ∃ t, exec .readyLow s = .next t
        ∧ t = { s with readyIn := false, hist := s.hist ++ [.op 0x00000010#32] }
        ∧ (statusWord t).getLsbD 4 = false)

/-- R152: EDGE_SAMPLE. A rising edge sets `pending`, a falling one only updates `ready_prev`. -/
def Obligations.EdgeSampleSignalsARisingEdge : Prop :=
  encode .edgeSample = [0x00000020#32] ∧
  ∀ s, (enabled .edgeSample s = true ↔ s.bound = true ∧ s.unbinding = false ∧ s.readyPrev ≠ s.readyIn) ∧
    (s.bound = true → s.unbinding = false → s.readyPrev = false → s.readyIn = true →
      ∃ t, exec .edgeSample s = .next t
        ∧ t = { s with pending := true, readyPrev := true, hist := s.hist ++ [.op 0x00000020#32] }
        ∧ (statusWord t).getLsbD 2 = true) ∧
    (s.bound = true → s.unbinding = false → s.readyPrev = true → s.readyIn = false →
      ∃ t, exec .edgeSample s = .next t
        ∧ t = { s with readyPrev := false, hist := s.hist ++ [.op 0x00000020#32] }
        ∧ statusWord t = statusWord s)

/-- R153: a pulse that rises and falls with no sample between is no edge, whatever level the detector holds: `pending`
and `ready_prev` are as before, EDGE_SAMPLE is enabled after it exactly if it was before it (for a falling edge not yet
sampled), and a sample then sets nothing. -/
def Obligations.UnsampledPulseIsNoEdge : Prop :=
  ∀ s, s.readyIn = false →
    ∃ t, execAll [.readyHigh, .readyLow] s = .next t ∧ t.pending = s.pending ∧ t.readyPrev = s.readyPrev
      ∧ t.readyIn = false ∧ t.phase = s.phase ∧ enabled .edgeSample t = enabled .edgeSample s
      ∧ (s.readyPrev = false → enabled .edgeSample t = false)
      ∧ ∀ u, exec .edgeSample t = .next u → u.pending = s.pending

/-- R154: whatever READY does and however often it is sampled, a notification that is pending stays the one notification,
and the sequencer is not touched. -/
def Obligations.EdgesCoalesceWhilePending : Prop :=
  ∀ ops s t, (∀ i ∈ ops, i.agent = .periph ∨ i.agent = .edge) → execAll ops s = .next t →
    s.pending = true → t.pending = true ∧ t.phase = s.phase ∧ t.bound = s.bound

/-- R155: while the engine is unbound or unbinding, EDGE_SAMPLE is not enabled and no step sets `pending`. BIND
re-synchronises the detector: right after a BIND that responds OK, EDGE_SAMPLE is not enabled. -/
def Obligations.EdgeDetectionIsOffOutsideTheSession : Prop :=
  ∀ s, s.bound = false ∨ s.unbinding = true →
    enabled .edgeSample s = false
    ∧ (s.pending = false → ∀ i t, exec i s = .next t → t.pending = false)
    ∧ ∀ t, s.bound = false → exec .bind s = .next t → t.bound = true → enabled .edgeSample t = false

/-- R164: an edge sampled during an attempt is kept through DELIVER, after which the one worker step enabled is TAKE;
without one the engine stays Idle. -/
def Obligations.EdgeDuringTransferIsReplayedOnce : Prop :=
  ∀ s t, s.bound = true → s.unbinding = false → s.phase = .deliver → exec .deliver s = .next t →
    t.phase = .idle ∧ t.bound = true ∧ t.pending = s.pending
    ∧ ∀ i, i.agent = .worker → (enabled i t = true ↔ i = .take ∧ s.pending = true)

/-! ## The worker sequence -/

/-- R156: TAKE, the transition Idle → Transferring. -/
def Obligations.TakeEntersTheAttempt : Prop :=
  encode .take = [0x00000030#32] ∧
  ∀ s, (enabled .take s = true ↔ s.bound = true ∧ s.phase = .idle ∧ s.pending = true) ∧
    (s.bound = true → s.phase = .idle → s.pending = true →
      ∃ t, exec .take s = .next t
        ∧ t = { s with
            pending := false, readyAtTake := s.readyIn, phase := .taken, hist := s.hist ++ [.op 0x00000030#32] }
        ∧ (statusWord t).getLsbD 2 = false ∧ (statusWord t).getLsbD 1 = true
        ∧ (statusWord t).getLsbD 5 = s.readyIn ∧ (statusWord t).extractLsb' 8 3 = 1#3)

/-- R100: ASSERT_BUSY. -/
def Obligations.AssertBusyRaisesBusy : Prop :=
  encode .assertBusy = [0x00000031#32] ∧
  ∀ s, (enabled .assertBusy s = true ↔ s.bound = true ∧ s.phase = .taken) ∧
    (s.bound = true → s.phase = .taken →
      ∃ t, exec .assertBusy s = .next t
        ∧ t = { s with busyOut := true, phase := .asserted, hist := s.hist ++ [.op 0x00000031#32] }
        ∧ (statusWord t).getLsbD 3 = true ∧ (statusWord t).extractLsb' 8 3 = 2#3)

/-- R110: READ_BLOCK. -/
def Obligations.ReadBlockStartsTheTransaction : Prop :=
  encode .readBlock = [0x00000032#32] ∧
  ∀ s, (enabled .readBlock s = true ↔ s.bound = true ∧ s.phase = .asserted) ∧
    (s.bound = true → s.phase = .asserted →
      ∃ t, exec .readBlock s = .next t
        ∧ t = { s with
            csActive := true, busCount := 0#32, phase := .reading, hist := s.hist ++ [.op 0x00000032#32] }
        ∧ (statusWord t).getLsbD 6 = true ∧ (statusWord t).extractLsb' 8 3 = 3#3
        ∧ readControlReg Config.engine t .xferCount = 0#32) ∧
    (lengthFits Config.engine s.cfgPayloadLen = true →
      4 ≤ (blockLen s).toNat ∧ (blockLen s).toNat ≤ Config.engine.bufCapacity)

/-- R111: BUS_BYTE. The byte stored is the only one of the buffer that changes. -/
def Obligations.BusByteStoresOneByte : Prop :=
  (∀ b : Byte, opWord (.busByte b) = (b.setWidth 32 <<< 8) ||| 0x40#32) ∧
  ∀ b s, (enabled (.busByte b) s = true ↔ s.bound = true ∧ s.phase = .reading ∧ s.busCount < blockLen s) ∧
    (s.bound = true → s.phase = .reading → s.busCount < blockLen s →
      lengthFits Config.engine s.cfgPayloadLen = true →
      ∃ t, exec (.busByte b) s = .next t
        ∧ t = { s with
            buf := t.buf, busCount := s.busCount + 1#32
            hist := s.hist ++ [.busByte (opWord (.busByte b)) b] }
        ∧ bufByte t s.busCount.toNat = b
        ∧ (∀ a, a ≠ s.busCount.toNat → bufByte t a = bufByte s a)
        ∧ t.busCount.toNat = s.busCount.toNat + 1
        ∧ statusWord t = statusWord s)

/-- R112: BUS_END. -/
def Obligations.BusEndCompletesTheTransaction : Prop :=
  encode .busEnd = [0x00000042#32] ∧
  ∀ s, (enabled .busEnd s = true ↔ s.bound = true ∧ s.phase = .reading ∧ s.busCount = blockLen s) ∧
    (s.bound = true → s.phase = .reading → s.busCount = blockLen s →
      enabled .busError s = true
      ∧ ∃ t, exec .busEnd s = .next t
        ∧ t = { s with csActive := false, phase := .readDone, hist := s.hist ++ [.op 0x00000042#32] }
        ∧ (statusWord t).getLsbD 6 = false ∧ (statusWord t).extractLsb' 8 3 = 4#3)

/-- R113: BUS_ERROR, at any count; the bytes received and their count stay. -/
def Obligations.BusErrorFailsTheTransaction : Prop :=
  encode .busError = [0x00000041#32] ∧
  ∀ s, (enabled .busError s = true ↔ s.bound = true ∧ s.phase = .reading) ∧
    (s.bound = true → s.phase = .reading →
      ∃ t, exec .busError s = .next t
        ∧ t = { s with csActive := false, phase := .readFailed, hist := s.hist ++ [.op 0x00000041#32] }
        ∧ (statusWord t).getLsbD 6 = false ∧ (statusWord t).extractLsb' 8 3 = 5#3
        ∧ readControlReg Config.engine t .xferCount = s.busCount)

/-- R102: DEASSERT_BUSY, after a full read and after a failed one. -/
def Obligations.DeassertBusyLowersBusyOnBothOutcomes : Prop :=
  encode .deassertBusy = [0x00000033#32] ∧
  ∀ s, (enabled .deassertBusy s = true ↔ s.bound = true ∧ (s.phase = .readDone ∨ s.phase = .readFailed)) ∧
    (s.bound = true → s.phase = .readDone →
      ∃ t, exec .deassertBusy s = .next t
        ∧ t = { s with busyOut := false, phase := .validate, hist := s.hist ++ [.op 0x00000033#32] }
        ∧ (statusWord t).getLsbD 3 = false ∧ (statusWord t).extractLsb' 8 3 = 6#3) ∧
    (s.bound = true → s.phase = .readFailed →
      ∃ t, exec .deassertBusy s = .next t
        ∧ t = { s with
            busyOut := false, phase := .deliver, resKind := .busError, resExpected := 0#32
            resReceived := 0#32, hist := s.hist ++ [.op 0x00000033#32] }
        ∧ (statusWord t).getLsbD 3 = false ∧ (statusWord t).extractLsb' 8 3 = 7#3)

/-- R132: CRC_VALIDATE on a block that fits the buffer (which R181 gives every session). -/
def Obligations.CrcValidateLatchesTheVerdict : Prop :=
  encode .crcValidate = [0x00000034#32] ∧
  ∀ s, (enabled .crcValidate s = true ↔ s.bound = true ∧ s.phase = .validate) ∧
    (s.bound = true → s.phase = .validate → lengthFits Config.engine s.cfgPayloadLen = true →
      ∃ payload field, memRead Config.engine s 0 (payloadLen s) = some payload
        ∧ payload = (List.range (payloadLen s)).map (bufByte s)
        ∧ field = load32 .le (bufByte s (payloadLen s)) (bufByte s (payloadLen s + 1))
            (bufByte s (payloadLen s + 2)) (bufByte s (payloadLen s + 3))
        ∧ (crc32be Config.engine payload = field → exec .crcValidate s = .next { s with
            resKind := .ok, resExpected := 0#32, resReceived := 0#32, phase := .deliver
            hist := s.hist ++ [.op 0x00000034#32] })
        ∧ (crc32be Config.engine payload ≠ field → exec .crcValidate s = .next { s with
            resKind := .mismatch, resExpected := crc32be Config.engine payload, resReceived := field
            phase := .deliver, hist := s.hist ++ [.op 0x00000034#32] })
        ∧ ∀ t, exec .crcValidate s = .next t → (statusWord t).extractLsb' 8 3 = 7#3
            ∧ (statusWord t).extractLsb' 0 8 = (statusWord s).extractLsb' 0 8)

/-- R175: DELIVER, for each latched result, without and with an UNBIND that had to wait; in the latter case the buffer's
contents become unspecified (R182, R69), so nothing is said of them. -/
def Obligations.DeliverPushesTheResultAndReturnsToIdle : Prop :=
  encode .deliver = [0x00000035#32] ∧
  ∀ s r, (enabled .deliver s = true ↔ s.bound = true ∧ s.phase = .deliver) ∧
    (s.bound = true → s.phase = .deliver →
      (s.resKind = .ok ∧ lengthFits Config.engine s.cfgPayloadLen = true
          ∧ r = .ok ((List.range (payloadLen s)).map (bufByte s))
        ∨ s.resKind = .busError ∧ r = .busError
        ∨ s.resKind = .mismatch ∧ r = .mismatch s.resExpected s.resReceived) →
      (s.unbinding = false → exec .deliver s = .next { s with
        out := s.out ++ [r], resKind := .none, resExpected := 0#32, resReceived := 0#32, phase := .idle
        hist := s.hist ++ [.deliver 0x00000035#32 r] })
      ∧ (s.unbinding = true → ∃ t, exec .deliver s = .next t ∧ t = { s with
        out := s.out ++ [r], resKind := .none, resExpected := 0#32, resReceived := 0#32, phase := .idle
        bound := false, unbinding := false, pending := false, busyOut := false, csActive := false
        buf := t.buf, bufEpoch := t.bufEpoch
        hist := s.hist ++ [.deliver 0x00000035#32 r] })
      ∧ ∀ t, exec .deliver s = .next t → (statusWord t).getLsbD 1 = false
        ∧ (statusWord t).extractLsb' 8 3 = 0#3
        ∧ (s.unbinding = true → (statusWord t).getLsbD 0 = false ∧ (statusWord t).getLsbD 7 = false))

/-- R159: the complete transition table of the sequencer; unbound, no worker or bus step is enabled; no other step moves
the phase of a state that meets the invariants. -/
def Obligations.SequencerFollowsTheTable : Prop :=
  (∀ i s t, i.agent = .worker ∨ i.agent = .bus → enabled i s = true → exec i s = .next t →
    (s.phase = .idle ∧ i = .take ∧ s.pending = true ∧ t.phase = .taken)
    ∨ (s.phase = .taken ∧ i = .assertBusy ∧ t.phase = .asserted)
    ∨ (s.phase = .asserted ∧ i = .readBlock ∧ t.phase = .reading)
    ∨ (s.phase = .reading ∧ (∃ b, i = .busByte b) ∧ s.busCount < blockLen s ∧ t.phase = .reading)
    ∨ (s.phase = .reading ∧ i = .busEnd ∧ s.busCount = blockLen s ∧ t.phase = .readDone)
    ∨ (s.phase = .reading ∧ i = .busError ∧ t.phase = .readFailed)
    ∨ (s.phase = .readDone ∧ i = .deassertBusy ∧ t.phase = .validate)
    ∨ (s.phase = .readFailed ∧ i = .deassertBusy ∧ t.phase = .deliver)
    ∨ (s.phase = .validate ∧ i = .crcValidate ∧ t.phase = .deliver)
    ∨ (s.phase = .deliver ∧ i = .deliver ∧ t.phase = .idle))
  ∧ (∀ i s, i.agent = .worker ∨ i.agent = .bus → s.bound = false → enabled i s = false)
  ∧ (∀ i s t, EngineInv s → i.agent ≠ .worker → i.agent ≠ .bus → exec i s = .next t → t.phase = s.phase)

/-- R162: at most one worker step is enabled; in P_READING none is, and the BUS agent has the choice R162 names. -/
def Obligations.WorkerIsDeterministicAndBusHasTheChoice : Prop :=
  (∀ s i j, i.agent = .worker → j.agent = .worker → enabled i s = true → enabled j s = true → i = j)
  ∧ (∀ s i, s.phase = .reading → i.agent = .worker → enabled i s = false)
  ∧ (∀ s i, s.bound = true → s.phase = .reading → s.busCount = blockLen s → i.agent = .bus →
      (enabled i s = true ↔ i = .busEnd ∨ i = .busError))
  ∧ (∀ s i, s.bound = true → s.phase = .reading → s.busCount < blockLen s → i.agent = .bus →
      (enabled i s = true ↔ (∃ b, i = .busByte b) ∨ i = .busError))

/-- R160: while an attempt is in progress, the steps of PERIPH, EDGE and HOST change nothing of it, and write only what
R160 lists. -/
def Obligations.TransferringIsNonInterruptible : Prop :=
  ∀ i s t, EngineInv s → s.phase ≠ .idle → exec i s = .next t →
    (i.agent = .periph → t = { s with readyIn := t.readyIn, hist := t.hist })
    ∧ (i.agent = .edge → t = { s with pending := t.pending, readyPrev := t.readyPrev, hist := t.hist })
    ∧ (i = .unbind → t = { s with
        unbinding := t.unbinding, pending := t.pending, hist := t.hist, responses := t.responses })
    ∧ (i = .bind → t = { s with hist := t.hist, responses := t.responses, draws := t.draws })
    ∧ (∀ r v, i = .regRead r ∨ i = .regWrite r v → t = { s with hist := t.hist, responses := t.responses })

/-- R157, R160, R170: the outcome of a worker or bus step depends on nothing but the attempt: two states that agree on
it (READY, the edge detector, the notification, the clock rate and the observation may differ) answer alike. -/
def Obligations.AttemptDependsOnNothingOutsideIt : Prop :=
  ∀ i s t s', i.agent = .worker ∨ i.agent = .bus → i ≠ .take → sameAttempt s t → exec i s = .next s' →
    ∃ t', exec i t = .next t' ∧ sameAttempt s' t'
      ∧ ∀ r, s'.out = s.out ++ [r] → t'.out = t.out ++ [r]

/-- R163: every worker or bus step of an attempt shortens what is left of it, and TAKE leaves BLOCK_LEN + 6 steps, so an
attempt takes at most BLOCK_LEN + 7, TAKE and DELIVER included. -/
def Obligations.EveryAttemptStepShortensTheAttempt : Prop :=
  (∀ i s t, EngineInv s → i.agent = .worker ∨ i.agent = .bus → i ≠ .take → enabled i s = true → exec i s = .next t →
    attemptBudget t < attemptBudget s)
  ∧ (∀ s t, enabled .take s = true → exec .take s = .next t →
    attemptBudget t + 1 = (blockLen s).toNat + 7)
  ∧ (∀ i s t, EngineInv s → i.agent ≠ .worker → i.agent ≠ .bus → exec i s = .next t →
    attemptBudget t = attemptBudget s)

/-- R116, R163: while an attempt is in progress a worker or a bus step is enabled; in P_READING it is a bus step. -/
def Obligations.AttemptIsNeverStuck : Prop :=
  ∀ s, EngineInv s → s.phase ≠ .idle →
    ∃ i, enabled i s = true ∧ (if s.phase = .reading then i.agent = .bus else i.agent = .worker)

/-- R163: in a run without hardware reset in which WORKER and BUS are weakly fair, an attempt in progress is delivered.
And in one in which WORKER is weakly fair and the host sends no UNBIND (R209 (d)), a notification in Idle is followed by
a TAKE. -/
def Obligations.FairRunDeliversEveryAttempt : Prop :=
  (∀ (sched : Nat → Move) (run : Nat → State) (n : Nat), isRun sched run → EngineInv (run n) →
    (∀ m ready, n ≤ m → sched m ≠ .hardwareReset ready) →
    weaklyFair .worker sched run → weaklyFair .bus sched run → (run n).phase ≠ .idle →
    ∃ m, n ≤ m ∧ (run m).phase = .deliver ∧ (run (m + 1)).phase = .idle
      ∧ ∃ r, (run (m + 1)).out = (run m).out ++ [r])
  ∧ ∀ (sched : Nat → Move) (run : Nat → State) (n : Nat), isRun sched run → EngineInv (run n) →
    (∀ m ready, n ≤ m → sched m ≠ .hardwareReset ready) →
    (∀ m, n ≤ m → sched m = .host → portCommand (run m) ≠ some .unbind) →
    weaklyFair .worker sched run → (run n).phase = .idle → (run n).pending = true →
    ∃ m, n ≤ m ∧ (run m).phase = .idle ∧ (run (m + 1)).phase = .taken
      ∧ (run (m + 1)).hist = (run m).hist ++ [.op 0x00000030#32]

/-! ## Whole attempts -/

/-- R170, R171, R172: a whole attempt over a block of bytes pushes exactly one result, the block's verdict: the payload
unchanged if its CRC equals the checksum field, the two values otherwise. -/
def Obligations.AttemptDeliversTheBlocksVerdict : Prop :=
  ∀ s (block : List Byte), s.bound = true → s.unbinding = false → s.phase = .idle → s.pending = true →
    lengthFits Config.engine s.cfgPayloadLen = true → block.length = payloadLen s + 4 →
    ∃ t, execAll (expandPseudo (.attempt block)) s = .next t
      ∧ t.out = s.out ++ [verdict Config.engine (payloadLen s) block]
      ∧ t.phase = .idle ∧ t.bound = true ∧ t.pending = false ∧ t.busyOut = false ∧ t.csActive = false
      ∧ t.resKind = .none ∧ t.busCount = blockLen s ∧ t.cfgPayloadLen = s.cfgPayloadLen
      ∧ t.cfgClkHz = s.cfgClkHz ∧ t.responses = s.responses
      ∧ (∀ a, a < block.length → bufByte t a = block.getD a 0#8)
      ∧ (∀ a, block.length ≤ a → bufByte t a = bufByte s a)

/-- R173: an attempt whose transaction fails after k bytes, 0 <= k <= BLOCK_LEN, pushes BusError; the CRC is not run. -/
def Obligations.FailedAttemptDeliversBusError : Prop :=
  ∀ s (bytes : List Byte), s.bound = true → s.unbinding = false → s.phase = .idle → s.pending = true →
    lengthFits Config.engine s.cfgPayloadLen = true → bytes.length ≤ payloadLen s + 4 →
    ∃ t, execAll (expandPseudo (.attemptFail bytes)) s = .next t
      ∧ t.out = s.out ++ [.busError]
      ∧ t.phase = .idle ∧ t.bound = true ∧ t.busyOut = false ∧ t.csActive = false ∧ t.resKind = .none
      ∧ t.busCount.toNat = bytes.length
      ∧ ∃ events, t.hist = s.hist ++ events ∧ .op 0x00000034#32 ∉ events

/-! ## The CRC Validator (43_crc_validator.md) -/

/-- R135: for every payload and every field, under every choice of the parameters of R7, the verdict latched is OK if
and only if the field equals the CRC, and MISMATCH with the two values otherwise; and the outcome of CRC_VALIDATE depends
only on the L + 4 bytes of the block. -/
def Obligations.ValidatorNeverPassesSilently : Prop :=
  (∀ (p : Params) (payload : List Byte) (f0 f1 f2 f3 : Byte) (s t : State),
    t = latchVerdict p payload (load32 p.chkByteOrder f0 f1 f2 f3) s →
    (t.resKind = .ok ↔ load32 p.chkByteOrder f0 f1 f2 f3 = crc32be p payload)
    ∧ (t.resKind = .ok ∧ t.resExpected = 0#32 ∧ t.resReceived = 0#32
      ∨ t.resKind = .mismatch ∧ t.resExpected = crc32be p payload
        ∧ t.resReceived = load32 p.chkByteOrder f0 f1 f2 f3))
  ∧ (∀ p s t, enabled .crcValidate s = true → enabled .crcValidate t = true →
    lengthFits p s.cfgPayloadLen = true → s.cfgPayloadLen = t.cfgPayloadLen →
    (∀ a, a < payloadLen s + 4 → bufByte s a = bufByte t a) →
    ∃ payload field s' t', execWith p .crcValidate s = .next s' ∧ execWith p .crcValidate t = .next t'
      ∧ payload = (List.range (payloadLen s)).map (bufByte s)
      ∧ field = load32 p.chkByteOrder (bufByte s (payloadLen s)) (bufByte s (payloadLen s + 1))
          (bufByte s (payloadLen s + 2)) (bufByte s (payloadLen s + 3))
      ∧ s'.resKind = (latchVerdict p payload field s).resKind
      ∧ s'.resExpected = (latchVerdict p payload field s).resExpected
      ∧ s'.resReceived = (latchVerdict p payload field s).resReceived
      ∧ s'.resKind = t'.resKind ∧ s'.resExpected = t'.resExpected ∧ s'.resReceived = t'.resReceived)

/-- R136: the laws of `crc32_be` without final XOR: the CRC of nothing is the initial value, and a sequence followed by
its own CRC, most significant byte first, has CRC 0. The check value of R136. -/
def Obligations.CrcLawsAndCheckValue : Prop :=
  (∀ p : Params, p.crcXorout = 0#32 → crc32be p [] = p.crcInit)
  ∧ (∀ (p : Params) (d : List Byte), p.crcXorout = 0#32 → crc32be p (d ++ be4 (crc32be p d)) = 0#32)
  ∧ crc32be Config.engine [0x31#8, 0x32#8, 0x33#8, 0x34#8, 0x35#8, 0x36#8, 0x37#8, 0x38#8, 0x39#8]
      = 0x0376E6E7#32

/-- R53: `load32` places each byte of the field, in both byte orders; the engine reads the field in the order of its
parameter, little-endian. -/
def Obligations.LoadOfTheFieldPlacesEachByte : Prop :=
  Config.engine.chkByteOrder = .le
  ∧ (∀ p s a, a + 4 ≤ p.bufCapacity → loadField p s a = some (load32 p.chkByteOrder
      (bufByte s a) (bufByte s (a + 1)) (bufByte s (a + 2)) (bufByte s (a + 3))))
  ∧ ∀ b0 b1 b2 b3 : Byte,
    (load32 .le b0 b1 b2 b3).toNat = b0.toNat + 2 ^ 8 * b1.toNat + 2 ^ 16 * b2.toNat + 2 ^ 24 * b3.toNat
    ∧ (load32 .be b0 b1 b2 b3).toNat = b3.toNat + 2 ^ 8 * b2.toNat + 2 ^ 16 * b1.toNat + 2 ^ 24 * b0.toNat

/-! ## Lifecycle and control port (45_lifecycle.md) -/

/-- R181: BIND. The state check first, then configuration and resources; on an error no field but the observation and
the draw taken changes. -/
def Obligations.BindOpensTheSessionOrRefuses : Prop :=
  encode .bind = [0x00000001#32] ∧
  ∀ s ok, resourcesOk s = ok →
    (s.bound = true → exec .bind s = .next { s with
      draws := s.draws.tail
      responses := s.responses ++ [{ code := .errState, data := 0#32 }]
      hist := s.hist ++ [.bind 0x00000001#32 ok { code := .errState, data := 0#32 }] })
    ∧ (s.bound = false → s.cfgClkHz = 0#32 ∨ s.cfgPayloadLen.toNat > 40964 - 4 ∨ ok = false →
      exec .bind s = .next { s with
        draws := s.draws.tail
        responses := s.responses ++ [{ code := .errBind, data := 0#32 }]
        hist := s.hist ++ [.bind 0x00000001#32 ok { code := .errBind, data := 0#32 }] })
    ∧ (s.bound = false → s.cfgClkHz ≠ 0#32 → s.cfgPayloadLen.toNat ≤ 40964 - 4 → ok = true →
      ∃ t, exec .bind s = .next t
        ∧ t = { s with
            bound := true, unbinding := false, phase := .idle, pending := false, readyPrev := s.readyIn
            readyAtTake := false, busyOut := false, csActive := false, busCount := 0#32
            resKind := .none, resExpected := 0#32, resReceived := 0#32
            draws := s.draws.tail
            responses := s.responses ++ [{ code := .ok, data := 0#32 }]
            hist := s.hist ++ [.bind 0x00000001#32 ok { code := .ok, data := 0#32 }] }
        ∧ statusWord t = (BitVec.ofBool s.readyIn).setWidth 32 <<< 4 ||| 1#32)

/-- R182: UNBIND, at once in Idle, deferred during an attempt, ERR_STATE otherwise. The buffer's contents become
unspecified when the session ends (R69), so nothing is said of them. -/
def Obligations.UnbindEndsOrDefersTheSession : Prop :=
  encode .unbind = [0x00000002#32] ∧
  ∀ s,
    (s.bound = false ∨ s.unbinding = true → exec .unbind s = .next { s with
      responses := s.responses ++ [{ code := .errState, data := 0#32 }]
      hist := s.hist ++ [.unbind 0x00000002#32 { code := .errState, data := 0#32 }] })
    ∧ (s.bound = true → s.unbinding = false → s.phase = .idle → ∃ t, exec .unbind s = .next t ∧ t = { s with
      bound := false, unbinding := false, pending := false, busyOut := false, csActive := false
      buf := t.buf, bufEpoch := t.bufEpoch
      responses := s.responses ++ [{ code := .ok, data := 0#32 }]
      hist := s.hist ++ [.unbind 0x00000002#32 { code := .ok, data := 0#32 }] })
    ∧ (s.bound = true → s.unbinding = false → s.phase ≠ .idle → exec .unbind s = .next { s with
      unbinding := true, pending := false
      responses := s.responses ++ [{ code := .pending, data := 0#32 }]
      hist := s.hist ++ [.unbind 0x00000002#32 { code := .pending, data := 0#32 }] })
    ∧ ∀ t, s.bound = true → s.unbinding = false → exec .unbind s = .next t →
      (statusWord t).getLsbD 2 = false
      ∧ (s.phase = .idle → (statusWord t).getLsbD 0 = false)
      ∧ (s.phase ≠ .idle → (statusWord t).getLsbD 0 = true ∧ (statusWord t).getLsbD 7 = true)

/-- R183: REG_READ of each register in every lifecycle state; a reserved number answers ERR_REG; nothing else changes. -/
def Obligations.RegReadAnswersTheRegister : Prop :=
  (∀ r : Word, opWord (.regRead r) = (r.setWidth 8 : BitVec 8).setWidth 32 <<< 8 ||| 0x03#32) ∧
  ∀ r s, ∃ code data,
    exec (.regRead r) s = .next { s with
      responses := s.responses ++ [{ code := code, data := data }]
      hist := s.hist ++ [.regRead (opWord (.regRead r)) { code := code, data := data }] }
    ∧ (r = 0x00#32 → code = .ok ∧ data = statusWord s)
    ∧ (r = 0x01#32 → code = .ok ∧ data = s.cfgClkHz)
    ∧ (r = 0x02#32 → code = .ok ∧ data = s.cfgPayloadLen)
    ∧ (r = 0x03#32 → code = .ok ∧ data.toNat = (s.cfgPayloadLen.toNat + 4) % 2 ^ 32)
    ∧ (r = 0x04#32 → code = .ok ∧ data = 0x0000A004#32)
    ∧ (r = 0x05#32 → code = .ok ∧ data = s.busCount)
    ∧ (0x05 < r.toNat → code = .errReg ∧ data = 0#32)

/-- R184: REG_WRITE of a configuration register, of a read-only one and of a reserved number; the read-only check comes
before the state check. -/
def Obligations.RegWriteConfiguresTheUnboundEngine : Prop :=
  (∀ r v : Word, encode (.regWrite r v) = [(r.setWidth 8 : BitVec 8).setWidth 32 <<< 8 ||| 0x04#32, v]) ∧
  ∀ r v s,
    (s.bound = false → r = 0x01#32 → exec (.regWrite r v) s = .next { s with
      cfgClkHz := v
      responses := s.responses ++ [{ code := .ok, data := 0#32 }]
      hist := s.hist ++ [.regWrite 0x00000104#32 v { code := .ok, data := 0#32 }] })
    ∧ (s.bound = false → r = 0x02#32 → exec (.regWrite r v) s = .next { s with
      cfgPayloadLen := v
      responses := s.responses ++ [{ code := .ok, data := 0#32 }]
      hist := s.hist ++ [.regWrite 0x00000204#32 v { code := .ok, data := 0#32 }] })
    ∧ (s.bound = true → r = 0x01#32 ∨ r = 0x02#32 → exec (.regWrite r v) s = .next { s with
      responses := s.responses ++ [{ code := .errState, data := 0#32 }]
      hist := s.hist ++ [.regWrite (opWord (.regWrite r v)) v { code := .errState, data := 0#32 }] })
    ∧ (r ≠ 0x01#32 → r ≠ 0x02#32 → exec (.regWrite r v) s = .next { s with
      responses := s.responses ++ [{ code := .errReg, data := 0#32 }]
      hist := s.hist ++ [.regWrite (opWord (.regWrite r v)) v { code := .errReg, data := 0#32 }] })
    ∧ ∀ t, exec (.regWrite r v) s = .next t → statusWord t = statusWord s

/-- R81, R82: every control-port command produces exactly one response, whose RESP holds the code of R81 in bits 2:0 and
0 above, and whose RDATA is 0 but for a REG_READ that responds OK. -/
def Obligations.EveryCommandGetsOneResponse : Prop :=
  (∀ r : Response, (r.words.1).extractLsb' 0 3 = r.code.code ∧ (r.words.1).extractLsb' 3 29 = 0#29
    ∧ r.words.2 = r.data)
  ∧ (RespCode.ok.code = 0#3 ∧ RespCode.errState.code = 1#3 ∧ RespCode.errReg.code = 2#3
    ∧ RespCode.errBind.code = 3#3 ∧ RespCode.errCmd.code = 4#3 ∧ RespCode.pending.code = 5#3)
  ∧ ∀ i s t, i.agent = .host → exec i s = .next t →
    ∃ r, t.responses = s.responses ++ [r]
      ∧ (∀ n, i = .regRead n → r.code = .ok → ∃ reg, regOfNumber n = some reg
        ∧ r.data = readControlReg Config.engine s reg)
      ∧ ((∀ n, i ≠ .regRead n) ∨ r.code ≠ .ok → r.data = 0#32)

/-- R83: the record of a Transfer Result on the result port. -/
def Obligations.ResultRecordHasKindAndContents : Prop :=
  (∀ payload : List Byte, (TransferResult.ok payload).record = ([1#32, BitVec.ofNat 32 payload.length], payload))
  ∧ TransferResult.busError.record = ([2#32], [])
  ∧ ∀ e r : Word, (TransferResult.mismatch e r).record = ([3#32, e, r], [])

/-- R186: before a BIND succeeds and after UNBIND completes no attempt is possible: no EDGE, WORKER or BUS step is
enabled, and only a BIND, which draws resources, can bind the engine. -/
def Obligations.NoTransferWithoutASession : Prop :=
  (∀ s i, s.bound = false → i.agent = .edge ∨ i.agent = .worker ∨ i.agent = .bus → enabled i s = false)
  ∧ (∀ s i t, EngineInv s → s.bound = false → exec i s = .next t →
    t.busyOut = false ∧ t.out = s.out ∧ (t.bound = true → i = .bind ∧ resourcesOk s = true))

/-- R187: after a BIND that does not respond OK every field of the engine is unchanged. -/
def Obligations.FailedBindLeavesNoTrace : Prop :=
  ∀ s t r, exec .bind s = .next t → t.responses = s.responses ++ [r] → r.code ≠ .ok →
    t = { s with hist := t.hist, responses := t.responses, draws := t.draws }

/-- R188: the configuration is constant for the whole session. -/
def Obligations.ConfigurationIsConstantWhileBound : Prop :=
  ∀ i s t, s.bound = true → exec i s = .next t →
    t.cfgClkHz = s.cfgClkHz ∧ t.cfgPayloadLen = s.cfgPayloadLen ∧ blockLen t = blockLen s

/-- R32: STATUS packs these fields, and its reserved bits read as 0; reading it has no side effect, writing it is refused. -/
def Obligations.StatusPacksTheFlags : Prop :=
  ∀ s, (statusWord s).getLsbD 0 = s.bound
    ∧ ((statusWord s).getLsbD 1 = true ↔ s.phase ≠ .idle)
    ∧ (statusWord s).getLsbD 2 = s.pending
    ∧ (statusWord s).getLsbD 3 = s.busyOut
    ∧ (statusWord s).getLsbD 4 = s.readyIn
    ∧ (statusWord s).getLsbD 5 = s.readyAtTake
    ∧ (statusWord s).getLsbD 6 = s.csActive
    ∧ (statusWord s).getLsbD 7 = s.unbinding
    ∧ (statusWord s).extractLsb' 8 3 = s.phase.code
    ∧ (statusWord s).extractLsb' 11 21 = 0#21
    ∧ exec (.regRead 0x00#32) s = .next { s with
        responses := s.responses ++ [{ code := .ok, data := statusWord s }]
        hist := s.hist ++ [.regRead 0x00000003#32 { code := .ok, data := statusWord s }] }
    ∧ ∀ v, exec (.regWrite 0x00#32 v) s = .next { s with
        responses := s.responses ++ [{ code := .errReg, data := 0#32 }]
        hist := s.hist ++ [.regWrite 0x00000004#32 v { code := .errReg, data := 0#32 }] }

/-! ## Reset (70_reset_and_hazards.md) -/

/-- R230, R231: hardware reset at any point: the attempt ends with no result, every hardware field takes its reset value,
the observation is kept and gains RESET. READY is the level the reset's move carries (a draw, log entry 6), and the
environment's inputs stay its own. -/
def Obligations.HardwareResetLeavesTheResetState : Prop :=
  ∀ s ready, nextMove s = .hardwareReset ready →
    step s = .next
      { bound := false, unbinding := false, phase := .idle, pending := false, readyIn := ready
        readyPrev := false, readyAtTake := false, busyOut := false, csActive := false, busCount := 0#32
        resKind := .none, resExpected := 0#32, resReceived := 0#32, cfgClkHz := 0#32
        cfgPayloadLen := 0x0000A000#32, buf := [], hist := s.hist ++ [.reset], out := s.out
        responses := s.responses, bufEpoch := s.bufEpoch + 1, moves := s.moves.tail, port := s.port
        draws := s.draws }

/-- R44: the state after the first power-on, in the fields the spec gives a value. -/
def Obligations.PowerOnStateHasTheSpecsValues : Prop :=
  State.reset.bound = false ∧ State.reset.unbinding = false ∧ State.reset.phase = .idle
  ∧ State.reset.pending = false ∧ State.reset.readyPrev = false ∧ State.reset.readyAtTake = false
  ∧ State.reset.busyOut = false ∧ State.reset.csActive = false ∧ State.reset.busCount = 0#32
  ∧ State.reset.resKind = .none ∧ State.reset.resExpected = 0#32 ∧ State.reset.resReceived = 0#32
  ∧ State.reset.cfgClkHz = 0#32 ∧ State.reset.cfgPayloadLen = 40960#32 ∧ State.reset.hist = []
  ∧ State.reset.out = []

/-! ## Invariants and whole-machine rules -/

/-- The invariants hold after the first power-on, whatever the parameters of R7 are, and so of this engine. -/
def Obligations.InvariantsHoldAfterPowerOn : Prop :=
  (∀ p, EngineInvWith p (State.powerOn p)) ∧ EngineInv State.reset

/-- R45: every step keeps the invariants, in every state that meets them: a step of an agent, a command of whatever
words, hardware reset. It holds of the machine of every well-formed choice of the parameters of R7. -/
def Obligations.EveryStepKeepsTheInvariants : Prop :=
  (∀ s t, EngineInv s → Sys2Proof.Machine.step s = .next t → EngineInv t)
  ∧ ∀ p s t, p.wellFormed = true → EngineInvWith p s → stepWith p s = .next t → EngineInvWith p t

/-- R205: in a state that meets the invariants every step has a defined outcome: no step faults and none is refused.
It holds of the machine of every well-formed choice of the parameters of R7. -/
def Obligations.EveryStepHasADefinedOutcome : Prop :=
  (∀ s, EngineInv s → ∃ t, step s = .next t)
  ∧ ∀ p s, p.wellFormed = true → EngineInvWith p s → ∃ t, stepWith p s = .next t

/-- R101: only ASSERT_BUSY and DEASSERT_BUSY change BUSY in a state that meets the invariants; hardware reset lowers
it. -/
def Obligations.OnlyTheHandshakeDrivesBusy : Prop :=
  (∀ i s t, EngineInv s → exec i s = .next t → t.busyOut ≠ s.busyOut →
    (i = .assertBusy ∧ t.busyOut = true) ∨ (i = .deassertBusy ∧ t.busyOut = false))
  ∧ ∀ p s ready, (hardwareReset p ready s).busyOut = false

/-- R52, R60: every byte of the buffer reads after a step as before it, but for the one byte a BUS_BYTE stores at
`bus_count` in P_READING (where BUSY is asserted, in a state that meets the invariants), and but for a session's end, at
which the contents become unspecified (log entry 7). -/
def Obligations.BufferIsWrittenOnlyByBusByteWhileBusy : Prop :=
  ∀ i s t a, exec i s = .next t → bufByte t a ≠ bufByte s a →
    (∃ b, i = .busByte b ∧ a = s.busCount.toNat ∧ bufByte t a = b ∧ s.phase = .reading
      ∧ (EngineInv s → s.busyOut = true))
    ∨ ((i = .unbind ∨ i = .deliver) ∧ s.bound = true ∧ t.bound = false)

/-- R104, R105: BUSY is asserted exactly while the bus path is in use, and whenever chip-select is asserted BUSY is. -/
def Obligations.BusyBracketContainsChipSelect : Prop :=
  ∀ s, EngineInv s →
    (busyPin s = true ↔ s.phase = .asserted ∨ s.phase = .reading ∨ s.phase = .readDone ∨ s.phase = .readFailed)
    ∧ (csNPin s = false → busyPin s = true ∧ s.phase = .reading)
    ∧ (s.bound = false ∨ s.phase = .idle → busyPin s = false ∧ csNPin s = true)

/-- The buffer's canonical form (addresses strictly rising, each an address R50 gives BUF) is the model's choice, log
entry 7: every operation keeps it, in every state. -/
def Obligations.BufferKeepsItsCanonicalForm : Prop :=
  ∀ i s t, Memory.wf Config.engine s.buf = true → exec i s = .next t →
    Memory.wf Config.engine t.buf = true

/-! ## The model's own stops -/

/-- The model's choices (log entries 8 and 9): a step that reaches for an address R50 does not give the buffer faults by
name: BUS_BYTE at such a count, CRC_VALIDATE of a block that leaves the buffer, DELIVER of a payload that leaves it (it
reads no checksum field, R52); and so does DELIVER with no latched result. -/
def Obligations.StopsNoRunReachesFaultByName : Prop :=
  (∀ b s, enabled (.busByte b) s = true → 40964 ≤ s.busCount.toNat →
    exec (.busByte b) s = .fault .bufferRange)
  ∧ (∀ s, enabled .crcValidate s = true → 40964 < s.cfgPayloadLen.toNat + 4 →
    exec .crcValidate s = .fault .bufferRange)
  ∧ (∀ s, enabled .deliver s = true → s.resKind = .ok → 40964 < s.cfgPayloadLen.toNat →
    exec .deliver s = .fault .bufferRange)
  ∧ (∀ s, enabled .deliver s = true → s.resKind = .none → exec .deliver s = .fault .noResult)

/-! ## The parameters -/

/-- R7: every parameter is an argument of the machine, and this engine is the machine at the defaults. RESET_PAYLOAD_LEN
is the payload length after power-on and after reset; BUF_CAPACITY is what its register reads and what BIND and BUS_BYTE
keep to; MOSI_FILL and SPI_WORD_BITS are seen on the wire. The CRC's parameters and CHK_BYTE_ORDER are in
`ValidatorNeverPassesSilently`. -/
def Obligations.MachineTakesItsParameters : Prop :=
  (∀ i s, exec i s = execWith Config.engine i s) ∧ (∀ s, step s = stepWith Config.engine s)
  ∧ State.reset = State.powerOn Config.engine
  ∧ (Config.engine.bufCapacity = 40964 ∧ Config.engine.resetPayloadLen = 40960#32
    ∧ Config.engine.crcPoly = 0x04C11DB7#32 ∧ Config.engine.crcInit = 0xFFFFFFFF#32
    ∧ Config.engine.crcXorout = 0#32 ∧ Config.engine.chkByteOrder = .le ∧ Config.engine.mosiFill = 0#8
    ∧ Config.engine.spiWordBits = 8)
  ∧ ∀ p, (State.powerOn p).cfgPayloadLen = p.resetPayloadLen
    ∧ (∀ ready s t, nextMove s = .hardwareReset ready → stepWith p s = .next t →
      t.cfgPayloadLen = p.resetPayloadLen ∧ t.readyIn = ready ∧ t.bound = false)
    ∧ (∀ s, execWith p (.regRead 0x04#32) s = .next { s with
        responses := s.responses ++ [{ code := .ok, data := BitVec.ofNat 32 p.bufCapacity }]
        hist := s.hist ++ [.regRead 0x00000403#32 { code := .ok, data := BitVec.ofNat 32 p.bufCapacity }] })
    ∧ (∀ s, s.bound = false → s.cfgClkHz ≠ 0#32 → resourcesOk s = true →
      ∃ t, execWith p .bind s = .next t ∧ (t.bound = true ↔ s.cfgPayloadLen.toNat + 4 ≤ p.bufCapacity))
    ∧ (∀ b s, enabled (.busByte b) s = true →
      (s.busCount.toNat < p.bufCapacity → ∃ t, execWith p (.busByte b) s = .next t
        ∧ bufByte t s.busCount.toNat = b)
      ∧ (p.bufCapacity ≤ s.busCount.toNat → execWith p (.busByte b) s = .fault .bufferRange))
    ∧ mosiByte p = p.mosiFill ∧ ∀ b, sclkPeriods p (.busByte b) = p.spiWordBits
end

