-- ==== Sys2Proof/Laws/Decode.lean ====
section
/-! SUPPORT. The fields of an encoded word, and the lengths. -/

namespace Sys2Proof

@[simp] theorem opcOf_formatO (arg opc : BitVec 8) : opcOf (formatO arg opc) = opc := by
  apply BitVec.eq_of_getLsbD_eq
  intro i hi
  have h : i < 32 := by omega
  simp [opcOf, formatO, hi, h]

@[simp] theorem argOf_formatO (arg opc : BitVec 8) : argOf (formatO arg opc) = arg := by
  apply BitVec.eq_of_getLsbD_eq
  intro i hi
  have h : 8 + i < 32 := by omega
  simp [argOf, formatO, hi, h]

@[simp] theorem rsvOf_formatO (arg opc : BitVec 8) : rsvOf (formatO arg opc) = 0#16 := by
  apply BitVec.eq_of_getLsbD_eq
  intro i hi
  have h : 16 + i < 32 := by omega
  have e : 16 + i - 8 = 8 + i := by omega
  simp [rsvOf, formatO, h, e, BitVec.getLsbD_of_ge opc (16 + i) (by omega)]

/-- A word is its three fields. -/
theorem formatO_of_fields {w : Word} (h : rsvOf w = 0#16) : formatO (argOf w) (opcOf w) = w := by
  apply BitVec.eq_of_getLsbD_eq
  intro i hi
  have hr : ∀ k, k < 16 → w.getLsbD (16 + k) = false := fun k hk => by
    have := congrArg (fun v => BitVec.getLsbD v k) h
    simpa [rsvOf, hk] using this
  by_cases h8 : i < 8
  · simp [formatO, opcOf, argOf, hi, h8]
  · by_cases h16 : i < 16
    · have e : 8 + (i - 8) = i := by omega
      have h' : i - 8 < 8 := by omega
      simp [formatO, opcOf, argOf, hi, h8, h', e]
    · have h' : ¬ (i - 8 < 8) := by omega
      have e : 16 + (i - 16) = i := by omega
      have := hr (i - 16) (by omega)
      rw [e, BitVec.getLsbD_eq_getElem hi] at this
      simp [formatO, opcOf, argOf, hi, h8, h', this]

@[simp] theorem opcOf_opWord (i : Instr) : opcOf (opWord i) = i.opc := opcOf_formatO _ _

@[simp] theorem argOf_opWord (i : Instr) : argOf (opWord i) = i.arg := argOf_formatO _ _

@[simp] theorem rsvOf_opWord (i : Instr) : rsvOf (opWord i) = 0#16 := rsvOf_formatO _ _

/-- The number of words of an operation (R76). -/
theorem length_encode (i : Instr) : (encode i).length = i.wordCount := by
  cases i <;> rfl

/-- A register number that fits ARG comes back from ARG unchanged (R75). -/
theorem setWidth_arg {r : Word} (h : r.toNat < 256) : (r.setWidth 8).setWidth 32 = r := by
  apply BitVec.eq_of_toNat_eq
  simp only [BitVec.toNat_setWidth]
  omega

/-- A register number read from ARG fits ARG. -/
theorem arg_fits (a : BitVec 8) : (a.setWidth 32).toNat < 256 := by
  simp only [BitVec.toNat_setWidth]
  have := a.isLt
  omega

end Sys2Proof
end

