-- ==== Sys2Proof/Laws/State.lean ====
section
/-! SUPPORT. One lemma per field of State and per update of Machine/Ops.lean, so that no proof unfolds a record update. -/

namespace Sys2Proof.Machine

/-! ## record -/

@[simp] theorem record_bound (e : Event) (s : State) :
    (record e s).bound = s.bound := rfl
@[simp] theorem record_unbinding (e : Event) (s : State) :
    (record e s).unbinding = s.unbinding := rfl
@[simp] theorem record_phase (e : Event) (s : State) :
    (record e s).phase = s.phase := rfl
@[simp] theorem record_pending (e : Event) (s : State) :
    (record e s).pending = s.pending := rfl
@[simp] theorem record_readyIn (e : Event) (s : State) :
    (record e s).readyIn = s.readyIn := rfl
@[simp] theorem record_readyPrev (e : Event) (s : State) :
    (record e s).readyPrev = s.readyPrev := rfl
@[simp] theorem record_readyAtTake (e : Event) (s : State) :
    (record e s).readyAtTake = s.readyAtTake := rfl
@[simp] theorem record_busyOut (e : Event) (s : State) :
    (record e s).busyOut = s.busyOut := rfl
@[simp] theorem record_csActive (e : Event) (s : State) :
    (record e s).csActive = s.csActive := rfl
@[simp] theorem record_busCount (e : Event) (s : State) :
    (record e s).busCount = s.busCount := rfl
@[simp] theorem record_resKind (e : Event) (s : State) :
    (record e s).resKind = s.resKind := rfl
@[simp] theorem record_resExpected (e : Event) (s : State) :
    (record e s).resExpected = s.resExpected := rfl
@[simp] theorem record_resReceived (e : Event) (s : State) :
    (record e s).resReceived = s.resReceived := rfl
@[simp] theorem record_cfgClkHz (e : Event) (s : State) :
    (record e s).cfgClkHz = s.cfgClkHz := rfl
@[simp] theorem record_cfgPayloadLen (e : Event) (s : State) :
    (record e s).cfgPayloadLen = s.cfgPayloadLen := rfl
@[simp] theorem record_buf (e : Event) (s : State) :
    (record e s).buf = s.buf := rfl
@[simp] theorem record_hist (e : Event) (s : State) :
    (record e s).hist = s.hist ++ [e] := rfl
@[simp] theorem record_out (e : Event) (s : State) :
    (record e s).out = s.out := rfl
@[simp] theorem record_responses (e : Event) (s : State) :
    (record e s).responses = s.responses := rfl
@[simp] theorem record_bufEpoch (e : Event) (s : State) :
    (record e s).bufEpoch = s.bufEpoch := rfl
@[simp] theorem record_moves (e : Event) (s : State) :
    (record e s).moves = s.moves := rfl
@[simp] theorem record_port (e : Event) (s : State) :
    (record e s).port = s.port := rfl
@[simp] theorem record_draws (e : Event) (s : State) :
    (record e s).draws = s.draws := rfl

/-! ## emit -/

@[simp] theorem emit_bound (r : TransferResult) (s : State) :
    (emit r s).bound = s.bound := rfl
@[simp] theorem emit_unbinding (r : TransferResult) (s : State) :
    (emit r s).unbinding = s.unbinding := rfl
@[simp] theorem emit_phase (r : TransferResult) (s : State) :
    (emit r s).phase = s.phase := rfl
@[simp] theorem emit_pending (r : TransferResult) (s : State) :
    (emit r s).pending = s.pending := rfl
@[simp] theorem emit_readyIn (r : TransferResult) (s : State) :
    (emit r s).readyIn = s.readyIn := rfl
@[simp] theorem emit_readyPrev (r : TransferResult) (s : State) :
    (emit r s).readyPrev = s.readyPrev := rfl
@[simp] theorem emit_readyAtTake (r : TransferResult) (s : State) :
    (emit r s).readyAtTake = s.readyAtTake := rfl
@[simp] theorem emit_busyOut (r : TransferResult) (s : State) :
    (emit r s).busyOut = s.busyOut := rfl
@[simp] theorem emit_csActive (r : TransferResult) (s : State) :
    (emit r s).csActive = s.csActive := rfl
@[simp] theorem emit_busCount (r : TransferResult) (s : State) :
    (emit r s).busCount = s.busCount := rfl
@[simp] theorem emit_resKind (r : TransferResult) (s : State) :
    (emit r s).resKind = s.resKind := rfl
@[simp] theorem emit_resExpected (r : TransferResult) (s : State) :
    (emit r s).resExpected = s.resExpected := rfl
@[simp] theorem emit_resReceived (r : TransferResult) (s : State) :
    (emit r s).resReceived = s.resReceived := rfl
@[simp] theorem emit_cfgClkHz (r : TransferResult) (s : State) :
    (emit r s).cfgClkHz = s.cfgClkHz := rfl
@[simp] theorem emit_cfgPayloadLen (r : TransferResult) (s : State) :
    (emit r s).cfgPayloadLen = s.cfgPayloadLen := rfl
@[simp] theorem emit_buf (r : TransferResult) (s : State) :
    (emit r s).buf = s.buf := rfl
@[simp] theorem emit_hist (r : TransferResult) (s : State) :
    (emit r s).hist = s.hist := rfl
@[simp] theorem emit_out (r : TransferResult) (s : State) :
    (emit r s).out = s.out ++ [r] := rfl
@[simp] theorem emit_responses (r : TransferResult) (s : State) :
    (emit r s).responses = s.responses := rfl
@[simp] theorem emit_bufEpoch (r : TransferResult) (s : State) :
    (emit r s).bufEpoch = s.bufEpoch := rfl
@[simp] theorem emit_moves (r : TransferResult) (s : State) :
    (emit r s).moves = s.moves := rfl
@[simp] theorem emit_port (r : TransferResult) (s : State) :
    (emit r s).port = s.port := rfl
@[simp] theorem emit_draws (r : TransferResult) (s : State) :
    (emit r s).draws = s.draws := rfl

/-! ## respond -/

@[simp] theorem respond_bound (c : RespCode) (d : Word) (s : State) :
    (respond c d s).bound = s.bound := rfl
@[simp] theorem respond_unbinding (c : RespCode) (d : Word) (s : State) :
    (respond c d s).unbinding = s.unbinding := rfl
@[simp] theorem respond_phase (c : RespCode) (d : Word) (s : State) :
    (respond c d s).phase = s.phase := rfl
@[simp] theorem respond_pending (c : RespCode) (d : Word) (s : State) :
    (respond c d s).pending = s.pending := rfl
@[simp] theorem respond_readyIn (c : RespCode) (d : Word) (s : State) :
    (respond c d s).readyIn = s.readyIn := rfl
@[simp] theorem respond_readyPrev (c : RespCode) (d : Word) (s : State) :
    (respond c d s).readyPrev = s.readyPrev := rfl
@[simp] theorem respond_readyAtTake (c : RespCode) (d : Word) (s : State) :
    (respond c d s).readyAtTake = s.readyAtTake := rfl
@[simp] theorem respond_busyOut (c : RespCode) (d : Word) (s : State) :
    (respond c d s).busyOut = s.busyOut := rfl
@[simp] theorem respond_csActive (c : RespCode) (d : Word) (s : State) :
    (respond c d s).csActive = s.csActive := rfl
@[simp] theorem respond_busCount (c : RespCode) (d : Word) (s : State) :
    (respond c d s).busCount = s.busCount := rfl
@[simp] theorem respond_resKind (c : RespCode) (d : Word) (s : State) :
    (respond c d s).resKind = s.resKind := rfl
@[simp] theorem respond_resExpected (c : RespCode) (d : Word) (s : State) :
    (respond c d s).resExpected = s.resExpected := rfl
@[simp] theorem respond_resReceived (c : RespCode) (d : Word) (s : State) :
    (respond c d s).resReceived = s.resReceived := rfl
@[simp] theorem respond_cfgClkHz (c : RespCode) (d : Word) (s : State) :
    (respond c d s).cfgClkHz = s.cfgClkHz := rfl
@[simp] theorem respond_cfgPayloadLen (c : RespCode) (d : Word) (s : State) :
    (respond c d s).cfgPayloadLen = s.cfgPayloadLen := rfl
@[simp] theorem respond_buf (c : RespCode) (d : Word) (s : State) :
    (respond c d s).buf = s.buf := rfl
@[simp] theorem respond_hist (c : RespCode) (d : Word) (s : State) :
    (respond c d s).hist = s.hist := rfl
@[simp] theorem respond_out (c : RespCode) (d : Word) (s : State) :
    (respond c d s).out = s.out := rfl
@[simp] theorem respond_responses (c : RespCode) (d : Word) (s : State) :
    (respond c d s).responses = s.responses ++ [{ code := c, data := d }] := rfl
@[simp] theorem respond_bufEpoch (c : RespCode) (d : Word) (s : State) :
    (respond c d s).bufEpoch = s.bufEpoch := rfl
@[simp] theorem respond_moves (c : RespCode) (d : Word) (s : State) :
    (respond c d s).moves = s.moves := rfl
@[simp] theorem respond_port (c : RespCode) (d : Word) (s : State) :
    (respond c d s).port = s.port := rfl
@[simp] theorem respond_draws (c : RespCode) (d : Word) (s : State) :
    (respond c d s).draws = s.draws := rfl

/-! ## reply -/

@[simp] theorem reply_bound (ev : Response → Event) (c : RespCode) (d : Word) (s : State) :
    (reply ev c d s).bound = s.bound := rfl
@[simp] theorem reply_unbinding (ev : Response → Event) (c : RespCode) (d : Word) (s : State) :
    (reply ev c d s).unbinding = s.unbinding := rfl
@[simp] theorem reply_phase (ev : Response → Event) (c : RespCode) (d : Word) (s : State) :
    (reply ev c d s).phase = s.phase := rfl
@[simp] theorem reply_pending (ev : Response → Event) (c : RespCode) (d : Word) (s : State) :
    (reply ev c d s).pending = s.pending := rfl
@[simp] theorem reply_readyIn (ev : Response → Event) (c : RespCode) (d : Word) (s : State) :
    (reply ev c d s).readyIn = s.readyIn := rfl
@[simp] theorem reply_readyPrev (ev : Response → Event) (c : RespCode) (d : Word) (s : State) :
    (reply ev c d s).readyPrev = s.readyPrev := rfl
@[simp] theorem reply_readyAtTake (ev : Response → Event) (c : RespCode) (d : Word) (s : State) :
    (reply ev c d s).readyAtTake = s.readyAtTake := rfl
@[simp] theorem reply_busyOut (ev : Response → Event) (c : RespCode) (d : Word) (s : State) :
    (reply ev c d s).busyOut = s.busyOut := rfl
@[simp] theorem reply_csActive (ev : Response → Event) (c : RespCode) (d : Word) (s : State) :
    (reply ev c d s).csActive = s.csActive := rfl
@[simp] theorem reply_busCount (ev : Response → Event) (c : RespCode) (d : Word) (s : State) :
    (reply ev c d s).busCount = s.busCount := rfl
@[simp] theorem reply_resKind (ev : Response → Event) (c : RespCode) (d : Word) (s : State) :
    (reply ev c d s).resKind = s.resKind := rfl
@[simp] theorem reply_resExpected (ev : Response → Event) (c : RespCode) (d : Word) (s : State) :
    (reply ev c d s).resExpected = s.resExpected := rfl
@[simp] theorem reply_resReceived (ev : Response → Event) (c : RespCode) (d : Word) (s : State) :
    (reply ev c d s).resReceived = s.resReceived := rfl
@[simp] theorem reply_cfgClkHz (ev : Response → Event) (c : RespCode) (d : Word) (s : State) :
    (reply ev c d s).cfgClkHz = s.cfgClkHz := rfl
@[simp] theorem reply_cfgPayloadLen (ev : Response → Event) (c : RespCode) (d : Word) (s : State) :
    (reply ev c d s).cfgPayloadLen = s.cfgPayloadLen := rfl
@[simp] theorem reply_buf (ev : Response → Event) (c : RespCode) (d : Word) (s : State) :
    (reply ev c d s).buf = s.buf := rfl
@[simp] theorem reply_hist (ev : Response → Event) (c : RespCode) (d : Word) (s : State) :
    (reply ev c d s).hist = s.hist ++ [ev { code := c, data := d }] := rfl
@[simp] theorem reply_out (ev : Response → Event) (c : RespCode) (d : Word) (s : State) :
    (reply ev c d s).out = s.out := rfl
@[simp] theorem reply_responses (ev : Response → Event) (c : RespCode) (d : Word) (s : State) :
    (reply ev c d s).responses = s.responses ++ [{ code := c, data := d }] := rfl
@[simp] theorem reply_bufEpoch (ev : Response → Event) (c : RespCode) (d : Word) (s : State) :
    (reply ev c d s).bufEpoch = s.bufEpoch := rfl
@[simp] theorem reply_moves (ev : Response → Event) (c : RespCode) (d : Word) (s : State) :
    (reply ev c d s).moves = s.moves := rfl
@[simp] theorem reply_port (ev : Response → Event) (c : RespCode) (d : Word) (s : State) :
    (reply ev c d s).port = s.port := rfl
@[simp] theorem reply_draws (ev : Response → Event) (c : RespCode) (d : Word) (s : State) :
    (reply ev c d s).draws = s.draws := rfl

/-! ## latch -/

@[simp] theorem latch_bound (k : ResKind) (x y : Word) (s : State) :
    (latch k x y s).bound = s.bound := rfl
@[simp] theorem latch_unbinding (k : ResKind) (x y : Word) (s : State) :
    (latch k x y s).unbinding = s.unbinding := rfl
@[simp] theorem latch_phase (k : ResKind) (x y : Word) (s : State) :
    (latch k x y s).phase = s.phase := rfl
@[simp] theorem latch_pending (k : ResKind) (x y : Word) (s : State) :
    (latch k x y s).pending = s.pending := rfl
@[simp] theorem latch_readyIn (k : ResKind) (x y : Word) (s : State) :
    (latch k x y s).readyIn = s.readyIn := rfl
@[simp] theorem latch_readyPrev (k : ResKind) (x y : Word) (s : State) :
    (latch k x y s).readyPrev = s.readyPrev := rfl
@[simp] theorem latch_readyAtTake (k : ResKind) (x y : Word) (s : State) :
    (latch k x y s).readyAtTake = s.readyAtTake := rfl
@[simp] theorem latch_busyOut (k : ResKind) (x y : Word) (s : State) :
    (latch k x y s).busyOut = s.busyOut := rfl
@[simp] theorem latch_csActive (k : ResKind) (x y : Word) (s : State) :
    (latch k x y s).csActive = s.csActive := rfl
@[simp] theorem latch_busCount (k : ResKind) (x y : Word) (s : State) :
    (latch k x y s).busCount = s.busCount := rfl
@[simp] theorem latch_resKind (k : ResKind) (x y : Word) (s : State) :
    (latch k x y s).resKind = k := rfl
@[simp] theorem latch_resExpected (k : ResKind) (x y : Word) (s : State) :
    (latch k x y s).resExpected = x := rfl
@[simp] theorem latch_resReceived (k : ResKind) (x y : Word) (s : State) :
    (latch k x y s).resReceived = y := rfl
@[simp] theorem latch_cfgClkHz (k : ResKind) (x y : Word) (s : State) :
    (latch k x y s).cfgClkHz = s.cfgClkHz := rfl
@[simp] theorem latch_cfgPayloadLen (k : ResKind) (x y : Word) (s : State) :
    (latch k x y s).cfgPayloadLen = s.cfgPayloadLen := rfl
@[simp] theorem latch_buf (k : ResKind) (x y : Word) (s : State) :
    (latch k x y s).buf = s.buf := rfl
@[simp] theorem latch_hist (k : ResKind) (x y : Word) (s : State) :
    (latch k x y s).hist = s.hist := rfl
@[simp] theorem latch_out (k : ResKind) (x y : Word) (s : State) :
    (latch k x y s).out = s.out := rfl
@[simp] theorem latch_responses (k : ResKind) (x y : Word) (s : State) :
    (latch k x y s).responses = s.responses := rfl
@[simp] theorem latch_bufEpoch (k : ResKind) (x y : Word) (s : State) :
    (latch k x y s).bufEpoch = s.bufEpoch := rfl
@[simp] theorem latch_moves (k : ResKind) (x y : Word) (s : State) :
    (latch k x y s).moves = s.moves := rfl
@[simp] theorem latch_port (k : ResKind) (x y : Word) (s : State) :
    (latch k x y s).port = s.port := rfl
@[simp] theorem latch_draws (k : ResKind) (x y : Word) (s : State) :
    (latch k x y s).draws = s.draws := rfl

/-! ## forgetBuffer -/

@[simp] theorem forgetBuffer_bound (s : State) :
    (forgetBuffer s).bound = s.bound := rfl
@[simp] theorem forgetBuffer_unbinding (s : State) :
    (forgetBuffer s).unbinding = s.unbinding := rfl
@[simp] theorem forgetBuffer_phase (s : State) :
    (forgetBuffer s).phase = s.phase := rfl
@[simp] theorem forgetBuffer_pending (s : State) :
    (forgetBuffer s).pending = s.pending := rfl
@[simp] theorem forgetBuffer_readyIn (s : State) :
    (forgetBuffer s).readyIn = s.readyIn := rfl
@[simp] theorem forgetBuffer_readyPrev (s : State) :
    (forgetBuffer s).readyPrev = s.readyPrev := rfl
@[simp] theorem forgetBuffer_readyAtTake (s : State) :
    (forgetBuffer s).readyAtTake = s.readyAtTake := rfl
@[simp] theorem forgetBuffer_busyOut (s : State) :
    (forgetBuffer s).busyOut = s.busyOut := rfl
@[simp] theorem forgetBuffer_csActive (s : State) :
    (forgetBuffer s).csActive = s.csActive := rfl
@[simp] theorem forgetBuffer_busCount (s : State) :
    (forgetBuffer s).busCount = s.busCount := rfl
@[simp] theorem forgetBuffer_resKind (s : State) :
    (forgetBuffer s).resKind = s.resKind := rfl
@[simp] theorem forgetBuffer_resExpected (s : State) :
    (forgetBuffer s).resExpected = s.resExpected := rfl
@[simp] theorem forgetBuffer_resReceived (s : State) :
    (forgetBuffer s).resReceived = s.resReceived := rfl
@[simp] theorem forgetBuffer_cfgClkHz (s : State) :
    (forgetBuffer s).cfgClkHz = s.cfgClkHz := rfl
@[simp] theorem forgetBuffer_cfgPayloadLen (s : State) :
    (forgetBuffer s).cfgPayloadLen = s.cfgPayloadLen := rfl
@[simp] theorem forgetBuffer_buf (s : State) :
    (forgetBuffer s).buf = [] := rfl
@[simp] theorem forgetBuffer_hist (s : State) :
    (forgetBuffer s).hist = s.hist := rfl
@[simp] theorem forgetBuffer_out (s : State) :
    (forgetBuffer s).out = s.out := rfl
@[simp] theorem forgetBuffer_responses (s : State) :
    (forgetBuffer s).responses = s.responses := rfl
@[simp] theorem forgetBuffer_bufEpoch (s : State) :
    (forgetBuffer s).bufEpoch = s.bufEpoch + 1 := rfl
@[simp] theorem forgetBuffer_moves (s : State) :
    (forgetBuffer s).moves = s.moves := rfl
@[simp] theorem forgetBuffer_port (s : State) :
    (forgetBuffer s).port = s.port := rfl
@[simp] theorem forgetBuffer_draws (s : State) :
    (forgetBuffer s).draws = s.draws := rfl

/-! ## openSession -/

@[simp] theorem openSession_bound (s : State) :
    (openSession s).bound = true := rfl
@[simp] theorem openSession_unbinding (s : State) :
    (openSession s).unbinding = false := rfl
@[simp] theorem openSession_phase (s : State) :
    (openSession s).phase = .idle := rfl
@[simp] theorem openSession_pending (s : State) :
    (openSession s).pending = false := rfl
@[simp] theorem openSession_readyIn (s : State) :
    (openSession s).readyIn = s.readyIn := rfl
@[simp] theorem openSession_readyPrev (s : State) :
    (openSession s).readyPrev = s.readyIn := rfl
@[simp] theorem openSession_readyAtTake (s : State) :
    (openSession s).readyAtTake = false := rfl
@[simp] theorem openSession_busyOut (s : State) :
    (openSession s).busyOut = false := rfl
@[simp] theorem openSession_csActive (s : State) :
    (openSession s).csActive = false := rfl
@[simp] theorem openSession_busCount (s : State) :
    (openSession s).busCount = 0#32 := rfl
@[simp] theorem openSession_resKind (s : State) :
    (openSession s).resKind = .none := rfl
@[simp] theorem openSession_resExpected (s : State) :
    (openSession s).resExpected = 0#32 := rfl
@[simp] theorem openSession_resReceived (s : State) :
    (openSession s).resReceived = 0#32 := rfl
@[simp] theorem openSession_cfgClkHz (s : State) :
    (openSession s).cfgClkHz = s.cfgClkHz := rfl
@[simp] theorem openSession_cfgPayloadLen (s : State) :
    (openSession s).cfgPayloadLen = s.cfgPayloadLen := rfl
@[simp] theorem openSession_buf (s : State) :
    (openSession s).buf = s.buf := rfl
@[simp] theorem openSession_hist (s : State) :
    (openSession s).hist = s.hist := rfl
@[simp] theorem openSession_out (s : State) :
    (openSession s).out = s.out := rfl
@[simp] theorem openSession_responses (s : State) :
    (openSession s).responses = s.responses := rfl
@[simp] theorem openSession_bufEpoch (s : State) :
    (openSession s).bufEpoch = s.bufEpoch := rfl
@[simp] theorem openSession_moves (s : State) :
    (openSession s).moves = s.moves := rfl
@[simp] theorem openSession_port (s : State) :
    (openSession s).port = s.port := rfl
@[simp] theorem openSession_draws (s : State) :
    (openSession s).draws = s.draws := rfl

/-! ## teardown -/

@[simp] theorem teardown_bound (s : State) :
    (teardown s).bound = false := rfl
@[simp] theorem teardown_unbinding (s : State) :
    (teardown s).unbinding = false := rfl
@[simp] theorem teardown_phase (s : State) :
    (teardown s).phase = s.phase := rfl
@[simp] theorem teardown_pending (s : State) :
    (teardown s).pending = false := rfl
@[simp] theorem teardown_readyIn (s : State) :
    (teardown s).readyIn = s.readyIn := rfl
@[simp] theorem teardown_readyPrev (s : State) :
    (teardown s).readyPrev = s.readyPrev := rfl
@[simp] theorem teardown_readyAtTake (s : State) :
    (teardown s).readyAtTake = s.readyAtTake := rfl
@[simp] theorem teardown_busyOut (s : State) :
    (teardown s).busyOut = false := rfl
@[simp] theorem teardown_csActive (s : State) :
    (teardown s).csActive = false := rfl
@[simp] theorem teardown_busCount (s : State) :
    (teardown s).busCount = s.busCount := rfl
@[simp] theorem teardown_resKind (s : State) :
    (teardown s).resKind = s.resKind := rfl
@[simp] theorem teardown_resExpected (s : State) :
    (teardown s).resExpected = s.resExpected := rfl
@[simp] theorem teardown_resReceived (s : State) :
    (teardown s).resReceived = s.resReceived := rfl
@[simp] theorem teardown_cfgClkHz (s : State) :
    (teardown s).cfgClkHz = s.cfgClkHz := rfl
@[simp] theorem teardown_cfgPayloadLen (s : State) :
    (teardown s).cfgPayloadLen = s.cfgPayloadLen := rfl
@[simp] theorem teardown_buf (s : State) :
    (teardown s).buf = [] := rfl
@[simp] theorem teardown_hist (s : State) :
    (teardown s).hist = s.hist := rfl
@[simp] theorem teardown_out (s : State) :
    (teardown s).out = s.out := rfl
@[simp] theorem teardown_responses (s : State) :
    (teardown s).responses = s.responses := rfl
@[simp] theorem teardown_bufEpoch (s : State) :
    (teardown s).bufEpoch = s.bufEpoch + 1 := rfl
@[simp] theorem teardown_moves (s : State) :
    (teardown s).moves = s.moves := rfl
@[simp] theorem teardown_port (s : State) :
    (teardown s).port = s.port := rfl
@[simp] theorem teardown_draws (s : State) :
    (teardown s).draws = s.draws := rfl

/-! ## deferUnbind -/

@[simp] theorem deferUnbind_bound (s : State) :
    (deferUnbind s).bound = s.bound := rfl
@[simp] theorem deferUnbind_unbinding (s : State) :
    (deferUnbind s).unbinding = true := rfl
@[simp] theorem deferUnbind_phase (s : State) :
    (deferUnbind s).phase = s.phase := rfl
@[simp] theorem deferUnbind_pending (s : State) :
    (deferUnbind s).pending = false := rfl
@[simp] theorem deferUnbind_readyIn (s : State) :
    (deferUnbind s).readyIn = s.readyIn := rfl
@[simp] theorem deferUnbind_readyPrev (s : State) :
    (deferUnbind s).readyPrev = s.readyPrev := rfl
@[simp] theorem deferUnbind_readyAtTake (s : State) :
    (deferUnbind s).readyAtTake = s.readyAtTake := rfl
@[simp] theorem deferUnbind_busyOut (s : State) :
    (deferUnbind s).busyOut = s.busyOut := rfl
@[simp] theorem deferUnbind_csActive (s : State) :
    (deferUnbind s).csActive = s.csActive := rfl
@[simp] theorem deferUnbind_busCount (s : State) :
    (deferUnbind s).busCount = s.busCount := rfl
@[simp] theorem deferUnbind_resKind (s : State) :
    (deferUnbind s).resKind = s.resKind := rfl
@[simp] theorem deferUnbind_resExpected (s : State) :
    (deferUnbind s).resExpected = s.resExpected := rfl
@[simp] theorem deferUnbind_resReceived (s : State) :
    (deferUnbind s).resReceived = s.resReceived := rfl
@[simp] theorem deferUnbind_cfgClkHz (s : State) :
    (deferUnbind s).cfgClkHz = s.cfgClkHz := rfl
@[simp] theorem deferUnbind_cfgPayloadLen (s : State) :
    (deferUnbind s).cfgPayloadLen = s.cfgPayloadLen := rfl
@[simp] theorem deferUnbind_buf (s : State) :
    (deferUnbind s).buf = s.buf := rfl
@[simp] theorem deferUnbind_hist (s : State) :
    (deferUnbind s).hist = s.hist := rfl
@[simp] theorem deferUnbind_out (s : State) :
    (deferUnbind s).out = s.out := rfl
@[simp] theorem deferUnbind_responses (s : State) :
    (deferUnbind s).responses = s.responses := rfl
@[simp] theorem deferUnbind_bufEpoch (s : State) :
    (deferUnbind s).bufEpoch = s.bufEpoch := rfl
@[simp] theorem deferUnbind_moves (s : State) :
    (deferUnbind s).moves = s.moves := rfl
@[simp] theorem deferUnbind_port (s : State) :
    (deferUnbind s).port = s.port := rfl
@[simp] theorem deferUnbind_draws (s : State) :
    (deferUnbind s).draws = s.draws := rfl

/-! ## enterAttempt -/

@[simp] theorem enterAttempt_bound (s : State) :
    (enterAttempt s).bound = s.bound := rfl
@[simp] theorem enterAttempt_unbinding (s : State) :
    (enterAttempt s).unbinding = s.unbinding := rfl
@[simp] theorem enterAttempt_phase (s : State) :
    (enterAttempt s).phase = .taken := rfl
@[simp] theorem enterAttempt_pending (s : State) :
    (enterAttempt s).pending = false := rfl
@[simp] theorem enterAttempt_readyIn (s : State) :
    (enterAttempt s).readyIn = s.readyIn := rfl
@[simp] theorem enterAttempt_readyPrev (s : State) :
    (enterAttempt s).readyPrev = s.readyPrev := rfl
@[simp] theorem enterAttempt_readyAtTake (s : State) :
    (enterAttempt s).readyAtTake = s.readyIn := rfl
@[simp] theorem enterAttempt_busyOut (s : State) :
    (enterAttempt s).busyOut = s.busyOut := rfl
@[simp] theorem enterAttempt_csActive (s : State) :
    (enterAttempt s).csActive = s.csActive := rfl
@[simp] theorem enterAttempt_busCount (s : State) :
    (enterAttempt s).busCount = s.busCount := rfl
@[simp] theorem enterAttempt_resKind (s : State) :
    (enterAttempt s).resKind = s.resKind := rfl
@[simp] theorem enterAttempt_resExpected (s : State) :
    (enterAttempt s).resExpected = s.resExpected := rfl
@[simp] theorem enterAttempt_resReceived (s : State) :
    (enterAttempt s).resReceived = s.resReceived := rfl
@[simp] theorem enterAttempt_cfgClkHz (s : State) :
    (enterAttempt s).cfgClkHz = s.cfgClkHz := rfl
@[simp] theorem enterAttempt_cfgPayloadLen (s : State) :
    (enterAttempt s).cfgPayloadLen = s.cfgPayloadLen := rfl
@[simp] theorem enterAttempt_buf (s : State) :
    (enterAttempt s).buf = s.buf := rfl
@[simp] theorem enterAttempt_hist (s : State) :
    (enterAttempt s).hist = s.hist := rfl
@[simp] theorem enterAttempt_out (s : State) :
    (enterAttempt s).out = s.out := rfl
@[simp] theorem enterAttempt_responses (s : State) :
    (enterAttempt s).responses = s.responses := rfl
@[simp] theorem enterAttempt_bufEpoch (s : State) :
    (enterAttempt s).bufEpoch = s.bufEpoch := rfl
@[simp] theorem enterAttempt_moves (s : State) :
    (enterAttempt s).moves = s.moves := rfl
@[simp] theorem enterAttempt_port (s : State) :
    (enterAttempt s).port = s.port := rfl
@[simp] theorem enterAttempt_draws (s : State) :
    (enterAttempt s).draws = s.draws := rfl

/-! ## dropMove -/

@[simp] theorem dropMove_bound (s : State) :
    (dropMove s).bound = s.bound := rfl
@[simp] theorem dropMove_unbinding (s : State) :
    (dropMove s).unbinding = s.unbinding := rfl
@[simp] theorem dropMove_phase (s : State) :
    (dropMove s).phase = s.phase := rfl
@[simp] theorem dropMove_pending (s : State) :
    (dropMove s).pending = s.pending := rfl
@[simp] theorem dropMove_readyIn (s : State) :
    (dropMove s).readyIn = s.readyIn := rfl
@[simp] theorem dropMove_readyPrev (s : State) :
    (dropMove s).readyPrev = s.readyPrev := rfl
@[simp] theorem dropMove_readyAtTake (s : State) :
    (dropMove s).readyAtTake = s.readyAtTake := rfl
@[simp] theorem dropMove_busyOut (s : State) :
    (dropMove s).busyOut = s.busyOut := rfl
@[simp] theorem dropMove_csActive (s : State) :
    (dropMove s).csActive = s.csActive := rfl
@[simp] theorem dropMove_busCount (s : State) :
    (dropMove s).busCount = s.busCount := rfl
@[simp] theorem dropMove_resKind (s : State) :
    (dropMove s).resKind = s.resKind := rfl
@[simp] theorem dropMove_resExpected (s : State) :
    (dropMove s).resExpected = s.resExpected := rfl
@[simp] theorem dropMove_resReceived (s : State) :
    (dropMove s).resReceived = s.resReceived := rfl
@[simp] theorem dropMove_cfgClkHz (s : State) :
    (dropMove s).cfgClkHz = s.cfgClkHz := rfl
@[simp] theorem dropMove_cfgPayloadLen (s : State) :
    (dropMove s).cfgPayloadLen = s.cfgPayloadLen := rfl
@[simp] theorem dropMove_buf (s : State) :
    (dropMove s).buf = s.buf := rfl
@[simp] theorem dropMove_hist (s : State) :
    (dropMove s).hist = s.hist := rfl
@[simp] theorem dropMove_out (s : State) :
    (dropMove s).out = s.out := rfl
@[simp] theorem dropMove_responses (s : State) :
    (dropMove s).responses = s.responses := rfl
@[simp] theorem dropMove_bufEpoch (s : State) :
    (dropMove s).bufEpoch = s.bufEpoch := rfl
@[simp] theorem dropMove_moves (s : State) :
    (dropMove s).moves = s.moves.tail := rfl
@[simp] theorem dropMove_port (s : State) :
    (dropMove s).port = s.port := rfl
@[simp] theorem dropMove_draws (s : State) :
    (dropMove s).draws = s.draws := rfl

/-! ## dropDraw -/

@[simp] theorem dropDraw_bound (s : State) :
    (dropDraw s).bound = s.bound := rfl
@[simp] theorem dropDraw_unbinding (s : State) :
    (dropDraw s).unbinding = s.unbinding := rfl
@[simp] theorem dropDraw_phase (s : State) :
    (dropDraw s).phase = s.phase := rfl
@[simp] theorem dropDraw_pending (s : State) :
    (dropDraw s).pending = s.pending := rfl
@[simp] theorem dropDraw_readyIn (s : State) :
    (dropDraw s).readyIn = s.readyIn := rfl
@[simp] theorem dropDraw_readyPrev (s : State) :
    (dropDraw s).readyPrev = s.readyPrev := rfl
@[simp] theorem dropDraw_readyAtTake (s : State) :
    (dropDraw s).readyAtTake = s.readyAtTake := rfl
@[simp] theorem dropDraw_busyOut (s : State) :
    (dropDraw s).busyOut = s.busyOut := rfl
@[simp] theorem dropDraw_csActive (s : State) :
    (dropDraw s).csActive = s.csActive := rfl
@[simp] theorem dropDraw_busCount (s : State) :
    (dropDraw s).busCount = s.busCount := rfl
@[simp] theorem dropDraw_resKind (s : State) :
    (dropDraw s).resKind = s.resKind := rfl
@[simp] theorem dropDraw_resExpected (s : State) :
    (dropDraw s).resExpected = s.resExpected := rfl
@[simp] theorem dropDraw_resReceived (s : State) :
    (dropDraw s).resReceived = s.resReceived := rfl
@[simp] theorem dropDraw_cfgClkHz (s : State) :
    (dropDraw s).cfgClkHz = s.cfgClkHz := rfl
@[simp] theorem dropDraw_cfgPayloadLen (s : State) :
    (dropDraw s).cfgPayloadLen = s.cfgPayloadLen := rfl
@[simp] theorem dropDraw_buf (s : State) :
    (dropDraw s).buf = s.buf := rfl
@[simp] theorem dropDraw_hist (s : State) :
    (dropDraw s).hist = s.hist := rfl
@[simp] theorem dropDraw_out (s : State) :
    (dropDraw s).out = s.out := rfl
@[simp] theorem dropDraw_responses (s : State) :
    (dropDraw s).responses = s.responses := rfl
@[simp] theorem dropDraw_bufEpoch (s : State) :
    (dropDraw s).bufEpoch = s.bufEpoch := rfl
@[simp] theorem dropDraw_moves (s : State) :
    (dropDraw s).moves = s.moves := rfl
@[simp] theorem dropDraw_port (s : State) :
    (dropDraw s).port = s.port := rfl
@[simp] theorem dropDraw_draws (s : State) :
    (dropDraw s).draws = s.draws.tail := rfl

/-! ## dropPort -/

@[simp] theorem dropPort_bound (n : Nat) (s : State) :
    (dropPort n s).bound = s.bound := rfl
@[simp] theorem dropPort_unbinding (n : Nat) (s : State) :
    (dropPort n s).unbinding = s.unbinding := rfl
@[simp] theorem dropPort_phase (n : Nat) (s : State) :
    (dropPort n s).phase = s.phase := rfl
@[simp] theorem dropPort_pending (n : Nat) (s : State) :
    (dropPort n s).pending = s.pending := rfl
@[simp] theorem dropPort_readyIn (n : Nat) (s : State) :
    (dropPort n s).readyIn = s.readyIn := rfl
@[simp] theorem dropPort_readyPrev (n : Nat) (s : State) :
    (dropPort n s).readyPrev = s.readyPrev := rfl
@[simp] theorem dropPort_readyAtTake (n : Nat) (s : State) :
    (dropPort n s).readyAtTake = s.readyAtTake := rfl
@[simp] theorem dropPort_busyOut (n : Nat) (s : State) :
    (dropPort n s).busyOut = s.busyOut := rfl
@[simp] theorem dropPort_csActive (n : Nat) (s : State) :
    (dropPort n s).csActive = s.csActive := rfl
@[simp] theorem dropPort_busCount (n : Nat) (s : State) :
    (dropPort n s).busCount = s.busCount := rfl
@[simp] theorem dropPort_resKind (n : Nat) (s : State) :
    (dropPort n s).resKind = s.resKind := rfl
@[simp] theorem dropPort_resExpected (n : Nat) (s : State) :
    (dropPort n s).resExpected = s.resExpected := rfl
@[simp] theorem dropPort_resReceived (n : Nat) (s : State) :
    (dropPort n s).resReceived = s.resReceived := rfl
@[simp] theorem dropPort_cfgClkHz (n : Nat) (s : State) :
    (dropPort n s).cfgClkHz = s.cfgClkHz := rfl
@[simp] theorem dropPort_cfgPayloadLen (n : Nat) (s : State) :
    (dropPort n s).cfgPayloadLen = s.cfgPayloadLen := rfl
@[simp] theorem dropPort_buf (n : Nat) (s : State) :
    (dropPort n s).buf = s.buf := rfl
@[simp] theorem dropPort_hist (n : Nat) (s : State) :
    (dropPort n s).hist = s.hist := rfl
@[simp] theorem dropPort_out (n : Nat) (s : State) :
    (dropPort n s).out = s.out := rfl
@[simp] theorem dropPort_responses (n : Nat) (s : State) :
    (dropPort n s).responses = s.responses := rfl
@[simp] theorem dropPort_bufEpoch (n : Nat) (s : State) :
    (dropPort n s).bufEpoch = s.bufEpoch := rfl
@[simp] theorem dropPort_moves (n : Nat) (s : State) :
    (dropPort n s).moves = s.moves := rfl
@[simp] theorem dropPort_port (n : Nat) (s : State) :
    (dropPort n s).port = s.port.drop n := rfl
@[simp] theorem dropPort_draws (n : Nat) (s : State) :
    (dropPort n s).draws = s.draws := rfl

/-! ## rejectCommand -/

@[simp] theorem rejectCommand_bound (s : State) :
    (rejectCommand s).bound = s.bound := rfl
@[simp] theorem rejectCommand_unbinding (s : State) :
    (rejectCommand s).unbinding = s.unbinding := rfl
@[simp] theorem rejectCommand_phase (s : State) :
    (rejectCommand s).phase = s.phase := rfl
@[simp] theorem rejectCommand_pending (s : State) :
    (rejectCommand s).pending = s.pending := rfl
@[simp] theorem rejectCommand_readyIn (s : State) :
    (rejectCommand s).readyIn = s.readyIn := rfl
@[simp] theorem rejectCommand_readyPrev (s : State) :
    (rejectCommand s).readyPrev = s.readyPrev := rfl
@[simp] theorem rejectCommand_readyAtTake (s : State) :
    (rejectCommand s).readyAtTake = s.readyAtTake := rfl
@[simp] theorem rejectCommand_busyOut (s : State) :
    (rejectCommand s).busyOut = s.busyOut := rfl
@[simp] theorem rejectCommand_csActive (s : State) :
    (rejectCommand s).csActive = s.csActive := rfl
@[simp] theorem rejectCommand_busCount (s : State) :
    (rejectCommand s).busCount = s.busCount := rfl
@[simp] theorem rejectCommand_resKind (s : State) :
    (rejectCommand s).resKind = s.resKind := rfl
@[simp] theorem rejectCommand_resExpected (s : State) :
    (rejectCommand s).resExpected = s.resExpected := rfl
@[simp] theorem rejectCommand_resReceived (s : State) :
    (rejectCommand s).resReceived = s.resReceived := rfl
@[simp] theorem rejectCommand_cfgClkHz (s : State) :
    (rejectCommand s).cfgClkHz = s.cfgClkHz := rfl
@[simp] theorem rejectCommand_cfgPayloadLen (s : State) :
    (rejectCommand s).cfgPayloadLen = s.cfgPayloadLen := rfl
@[simp] theorem rejectCommand_buf (s : State) :
    (rejectCommand s).buf = s.buf := rfl
@[simp] theorem rejectCommand_hist (s : State) :
    (rejectCommand s).hist = s.hist := rfl
@[simp] theorem rejectCommand_out (s : State) :
    (rejectCommand s).out = s.out := rfl
@[simp] theorem rejectCommand_responses (s : State) :
    (rejectCommand s).responses = s.responses ++ [{ code := .errCmd, data := 0#32 }] := rfl
@[simp] theorem rejectCommand_bufEpoch (s : State) :
    (rejectCommand s).bufEpoch = s.bufEpoch := rfl
@[simp] theorem rejectCommand_moves (s : State) :
    (rejectCommand s).moves = s.moves := rfl
@[simp] theorem rejectCommand_port (s : State) :
    (rejectCommand s).port = s.port.drop 1 := rfl
@[simp] theorem rejectCommand_draws (s : State) :
    (rejectCommand s).draws = s.draws := rfl

/-! ## powerOn -/

@[simp] theorem powerOn_bound (p : Params) : (State.powerOn p).bound = false := rfl
@[simp] theorem powerOn_unbinding (p : Params) : (State.powerOn p).unbinding = false := rfl
@[simp] theorem powerOn_phase (p : Params) : (State.powerOn p).phase = .idle := rfl
@[simp] theorem powerOn_pending (p : Params) : (State.powerOn p).pending = false := rfl
@[simp] theorem powerOn_readyIn (p : Params) : (State.powerOn p).readyIn = false := rfl
@[simp] theorem powerOn_readyPrev (p : Params) : (State.powerOn p).readyPrev = false := rfl
@[simp] theorem powerOn_readyAtTake (p : Params) : (State.powerOn p).readyAtTake = false := rfl
@[simp] theorem powerOn_busyOut (p : Params) : (State.powerOn p).busyOut = false := rfl
@[simp] theorem powerOn_csActive (p : Params) : (State.powerOn p).csActive = false := rfl
@[simp] theorem powerOn_busCount (p : Params) : (State.powerOn p).busCount = 0#32 := rfl
@[simp] theorem powerOn_resKind (p : Params) : (State.powerOn p).resKind = .none := rfl
@[simp] theorem powerOn_resExpected (p : Params) : (State.powerOn p).resExpected = 0#32 := rfl
@[simp] theorem powerOn_resReceived (p : Params) : (State.powerOn p).resReceived = 0#32 := rfl
@[simp] theorem powerOn_cfgClkHz (p : Params) : (State.powerOn p).cfgClkHz = 0#32 := rfl
@[simp] theorem powerOn_cfgPayloadLen (p : Params) : (State.powerOn p).cfgPayloadLen = p.resetPayloadLen := rfl
@[simp] theorem powerOn_buf (p : Params) : (State.powerOn p).buf = [] := rfl
@[simp] theorem powerOn_hist (p : Params) : (State.powerOn p).hist = [] := rfl
@[simp] theorem powerOn_out (p : Params) : (State.powerOn p).out = [] := rfl
@[simp] theorem powerOn_responses (p : Params) : (State.powerOn p).responses = [] := rfl
@[simp] theorem powerOn_bufEpoch (p : Params) : (State.powerOn p).bufEpoch = 0 := rfl
@[simp] theorem powerOn_moves (p : Params) : (State.powerOn p).moves = .none := rfl
@[simp] theorem powerOn_port (p : Params) : (State.powerOn p).port = .none := rfl
@[simp] theorem powerOn_draws (p : Params) : (State.powerOn p).draws = .none := rfl

/-! ## hardwareReset -/

@[simp] theorem hardwareReset_bound (p : Params) (l : Bool) (s : State) :
    (hardwareReset p l s).bound = false := rfl
@[simp] theorem hardwareReset_unbinding (p : Params) (l : Bool) (s : State) :
    (hardwareReset p l s).unbinding = false := rfl
@[simp] theorem hardwareReset_phase (p : Params) (l : Bool) (s : State) :
    (hardwareReset p l s).phase = .idle := rfl
@[simp] theorem hardwareReset_pending (p : Params) (l : Bool) (s : State) :
    (hardwareReset p l s).pending = false := rfl
@[simp] theorem hardwareReset_readyIn (p : Params) (l : Bool) (s : State) :
    (hardwareReset p l s).readyIn = l := rfl
@[simp] theorem hardwareReset_readyPrev (p : Params) (l : Bool) (s : State) :
    (hardwareReset p l s).readyPrev = false := rfl
@[simp] theorem hardwareReset_readyAtTake (p : Params) (l : Bool) (s : State) :
    (hardwareReset p l s).readyAtTake = false := rfl
@[simp] theorem hardwareReset_busyOut (p : Params) (l : Bool) (s : State) :
    (hardwareReset p l s).busyOut = false := rfl
@[simp] theorem hardwareReset_csActive (p : Params) (l : Bool) (s : State) :
    (hardwareReset p l s).csActive = false := rfl
@[simp] theorem hardwareReset_busCount (p : Params) (l : Bool) (s : State) :
    (hardwareReset p l s).busCount = 0#32 := rfl
@[simp] theorem hardwareReset_resKind (p : Params) (l : Bool) (s : State) :
    (hardwareReset p l s).resKind = .none := rfl
@[simp] theorem hardwareReset_resExpected (p : Params) (l : Bool) (s : State) :
    (hardwareReset p l s).resExpected = 0#32 := rfl
@[simp] theorem hardwareReset_resReceived (p : Params) (l : Bool) (s : State) :
    (hardwareReset p l s).resReceived = 0#32 := rfl
@[simp] theorem hardwareReset_cfgClkHz (p : Params) (l : Bool) (s : State) :
    (hardwareReset p l s).cfgClkHz = 0#32 := rfl
@[simp] theorem hardwareReset_cfgPayloadLen (p : Params) (l : Bool) (s : State) :
    (hardwareReset p l s).cfgPayloadLen = p.resetPayloadLen := rfl
@[simp] theorem hardwareReset_buf (p : Params) (l : Bool) (s : State) :
    (hardwareReset p l s).buf = [] := rfl
@[simp] theorem hardwareReset_hist (p : Params) (l : Bool) (s : State) :
    (hardwareReset p l s).hist = s.hist ++ [.reset] := rfl
@[simp] theorem hardwareReset_out (p : Params) (l : Bool) (s : State) :
    (hardwareReset p l s).out = s.out := rfl
@[simp] theorem hardwareReset_responses (p : Params) (l : Bool) (s : State) :
    (hardwareReset p l s).responses = s.responses := rfl
@[simp] theorem hardwareReset_bufEpoch (p : Params) (l : Bool) (s : State) :
    (hardwareReset p l s).bufEpoch = s.bufEpoch + 1 := rfl
@[simp] theorem hardwareReset_moves (p : Params) (l : Bool) (s : State) :
    (hardwareReset p l s).moves = s.moves := rfl
@[simp] theorem hardwareReset_port (p : Params) (l : Bool) (s : State) :
    (hardwareReset p l s).port = s.port := rfl
@[simp] theorem hardwareReset_draws (p : Params) (l : Bool) (s : State) :
    (hardwareReset p l s).draws = s.draws := rfl

/-! ## latchVerdict, whose branches differ in the latch alone -/

@[simp] theorem latchVerdict_bound (p : Params) (d : List Byte) (w : Word) (s : State) :
    (latchVerdict p d w s).bound = s.bound := by
  unfold latchVerdict; split <;> rfl
@[simp] theorem latchVerdict_unbinding (p : Params) (d : List Byte) (w : Word) (s : State) :
    (latchVerdict p d w s).unbinding = s.unbinding := by
  unfold latchVerdict; split <;> rfl
@[simp] theorem latchVerdict_phase (p : Params) (d : List Byte) (w : Word) (s : State) :
    (latchVerdict p d w s).phase = s.phase := by
  unfold latchVerdict; split <;> rfl
@[simp] theorem latchVerdict_pending (p : Params) (d : List Byte) (w : Word) (s : State) :
    (latchVerdict p d w s).pending = s.pending := by
  unfold latchVerdict; split <;> rfl
@[simp] theorem latchVerdict_readyIn (p : Params) (d : List Byte) (w : Word) (s : State) :
    (latchVerdict p d w s).readyIn = s.readyIn := by
  unfold latchVerdict; split <;> rfl
@[simp] theorem latchVerdict_readyPrev (p : Params) (d : List Byte) (w : Word) (s : State) :
    (latchVerdict p d w s).readyPrev = s.readyPrev := by
  unfold latchVerdict; split <;> rfl
@[simp] theorem latchVerdict_readyAtTake (p : Params) (d : List Byte) (w : Word) (s : State) :
    (latchVerdict p d w s).readyAtTake = s.readyAtTake := by
  unfold latchVerdict; split <;> rfl
@[simp] theorem latchVerdict_busyOut (p : Params) (d : List Byte) (w : Word) (s : State) :
    (latchVerdict p d w s).busyOut = s.busyOut := by
  unfold latchVerdict; split <;> rfl
@[simp] theorem latchVerdict_csActive (p : Params) (d : List Byte) (w : Word) (s : State) :
    (latchVerdict p d w s).csActive = s.csActive := by
  unfold latchVerdict; split <;> rfl
@[simp] theorem latchVerdict_busCount (p : Params) (d : List Byte) (w : Word) (s : State) :
    (latchVerdict p d w s).busCount = s.busCount := by
  unfold latchVerdict; split <;> rfl
@[simp] theorem latchVerdict_cfgClkHz (p : Params) (d : List Byte) (w : Word) (s : State) :
    (latchVerdict p d w s).cfgClkHz = s.cfgClkHz := by
  unfold latchVerdict; split <;> rfl
@[simp] theorem latchVerdict_cfgPayloadLen (p : Params) (d : List Byte) (w : Word) (s : State) :
    (latchVerdict p d w s).cfgPayloadLen = s.cfgPayloadLen := by
  unfold latchVerdict; split <;> rfl
@[simp] theorem latchVerdict_buf (p : Params) (d : List Byte) (w : Word) (s : State) :
    (latchVerdict p d w s).buf = s.buf := by
  unfold latchVerdict; split <;> rfl
@[simp] theorem latchVerdict_hist (p : Params) (d : List Byte) (w : Word) (s : State) :
    (latchVerdict p d w s).hist = s.hist := by
  unfold latchVerdict; split <;> rfl
@[simp] theorem latchVerdict_out (p : Params) (d : List Byte) (w : Word) (s : State) :
    (latchVerdict p d w s).out = s.out := by
  unfold latchVerdict; split <;> rfl
@[simp] theorem latchVerdict_responses (p : Params) (d : List Byte) (w : Word) (s : State) :
    (latchVerdict p d w s).responses = s.responses := by
  unfold latchVerdict; split <;> rfl
@[simp] theorem latchVerdict_bufEpoch (p : Params) (d : List Byte) (w : Word) (s : State) :
    (latchVerdict p d w s).bufEpoch = s.bufEpoch := by
  unfold latchVerdict; split <;> rfl
@[simp] theorem latchVerdict_moves (p : Params) (d : List Byte) (w : Word) (s : State) :
    (latchVerdict p d w s).moves = s.moves := by
  unfold latchVerdict; split <;> rfl
@[simp] theorem latchVerdict_port (p : Params) (d : List Byte) (w : Word) (s : State) :
    (latchVerdict p d w s).port = s.port := by
  unfold latchVerdict; split <;> rfl
@[simp] theorem latchVerdict_draws (p : Params) (d : List Byte) (w : Word) (s : State) :
    (latchVerdict p d w s).draws = s.draws := by
  unfold latchVerdict; split <;> rfl

/-! ## leaveAttempt, which ends the session if an UNBIND had to wait -/

@[simp] theorem leaveAttempt_bound (r : TransferResult) (s : State) :
    (leaveAttempt r s).bound = (s.bound && !s.unbinding) := by
  cases h : s.unbinding <;> simp [leaveAttempt, endIfUnbinding, h]
@[simp] theorem leaveAttempt_unbinding (r : TransferResult) (s : State) :
    (leaveAttempt r s).unbinding = false := by
  cases h : s.unbinding <;> simp [leaveAttempt, endIfUnbinding, h]
@[simp] theorem leaveAttempt_phase (r : TransferResult) (s : State) :
    (leaveAttempt r s).phase = .idle := by
  cases h : s.unbinding <;> simp [leaveAttempt, endIfUnbinding, h]
@[simp] theorem leaveAttempt_pending (r : TransferResult) (s : State) :
    (leaveAttempt r s).pending = (s.pending && !s.unbinding) := by
  cases h : s.unbinding <;> simp [leaveAttempt, endIfUnbinding, h]
@[simp] theorem leaveAttempt_readyIn (r : TransferResult) (s : State) :
    (leaveAttempt r s).readyIn = s.readyIn := by
  cases h : s.unbinding <;> simp [leaveAttempt, endIfUnbinding, h]
@[simp] theorem leaveAttempt_readyPrev (r : TransferResult) (s : State) :
    (leaveAttempt r s).readyPrev = s.readyPrev := by
  cases h : s.unbinding <;> simp [leaveAttempt, endIfUnbinding, h]
@[simp] theorem leaveAttempt_readyAtTake (r : TransferResult) (s : State) :
    (leaveAttempt r s).readyAtTake = s.readyAtTake := by
  cases h : s.unbinding <;> simp [leaveAttempt, endIfUnbinding, h]
@[simp] theorem leaveAttempt_busyOut (r : TransferResult) (s : State) :
    (leaveAttempt r s).busyOut = (s.busyOut && !s.unbinding) := by
  cases h : s.unbinding <;> simp [leaveAttempt, endIfUnbinding, h]
@[simp] theorem leaveAttempt_csActive (r : TransferResult) (s : State) :
    (leaveAttempt r s).csActive = (s.csActive && !s.unbinding) := by
  cases h : s.unbinding <;> simp [leaveAttempt, endIfUnbinding, h]
@[simp] theorem leaveAttempt_busCount (r : TransferResult) (s : State) :
    (leaveAttempt r s).busCount = s.busCount := by
  cases h : s.unbinding <;> simp [leaveAttempt, endIfUnbinding, h]
@[simp] theorem leaveAttempt_resKind (r : TransferResult) (s : State) :
    (leaveAttempt r s).resKind = .none := by
  cases h : s.unbinding <;> simp [leaveAttempt, endIfUnbinding, h]
@[simp] theorem leaveAttempt_resExpected (r : TransferResult) (s : State) :
    (leaveAttempt r s).resExpected = 0#32 := by
  cases h : s.unbinding <;> simp [leaveAttempt, endIfUnbinding, h]
@[simp] theorem leaveAttempt_resReceived (r : TransferResult) (s : State) :
    (leaveAttempt r s).resReceived = 0#32 := by
  cases h : s.unbinding <;> simp [leaveAttempt, endIfUnbinding, h]
@[simp] theorem leaveAttempt_cfgClkHz (r : TransferResult) (s : State) :
    (leaveAttempt r s).cfgClkHz = s.cfgClkHz := by
  cases h : s.unbinding <;> simp [leaveAttempt, endIfUnbinding, h]
@[simp] theorem leaveAttempt_cfgPayloadLen (r : TransferResult) (s : State) :
    (leaveAttempt r s).cfgPayloadLen = s.cfgPayloadLen := by
  cases h : s.unbinding <;> simp [leaveAttempt, endIfUnbinding, h]
@[simp] theorem leaveAttempt_buf (r : TransferResult) (s : State) :
    (leaveAttempt r s).buf = (if s.unbinding then [] else s.buf) := by
  cases h : s.unbinding <;> simp [leaveAttempt, endIfUnbinding, h]
@[simp] theorem leaveAttempt_hist (r : TransferResult) (s : State) :
    (leaveAttempt r s).hist = s.hist := by
  cases h : s.unbinding <;> simp [leaveAttempt, endIfUnbinding, h]
@[simp] theorem leaveAttempt_out (r : TransferResult) (s : State) :
    (leaveAttempt r s).out = s.out ++ [r] := by
  cases h : s.unbinding <;> simp [leaveAttempt, endIfUnbinding, h]
@[simp] theorem leaveAttempt_responses (r : TransferResult) (s : State) :
    (leaveAttempt r s).responses = s.responses := by
  cases h : s.unbinding <;> simp [leaveAttempt, endIfUnbinding, h]
@[simp] theorem leaveAttempt_bufEpoch (r : TransferResult) (s : State) :
    (leaveAttempt r s).bufEpoch = (if s.unbinding then s.bufEpoch + 1 else s.bufEpoch) := by
  cases h : s.unbinding <;> simp [leaveAttempt, endIfUnbinding, h]
@[simp] theorem leaveAttempt_moves (r : TransferResult) (s : State) :
    (leaveAttempt r s).moves = s.moves := by
  cases h : s.unbinding <;> simp [leaveAttempt, endIfUnbinding, h]
@[simp] theorem leaveAttempt_port (r : TransferResult) (s : State) :
    (leaveAttempt r s).port = s.port := by
  cases h : s.unbinding <;> simp [leaveAttempt, endIfUnbinding, h]
@[simp] theorem leaveAttempt_draws (r : TransferResult) (s : State) :
    (leaveAttempt r s).draws = s.draws := by
  cases h : s.unbinding <;> simp [leaveAttempt, endIfUnbinding, h]

end Sys2Proof.Machine
end

