-- ==== Sys2Proof/Laws/Memory.lean ====
section
/-! SUPPORT. The receive buffer: a read after a write, and every operation keeps the canonical form. -/

namespace Sys2Proof.Machine

@[simp] theorem find_nil (a : Nat) : Memory.find a [] = none := rfl

theorem find_cons (a : Nat) (c : Host.Cell) (m : Memory) :
    Memory.find a (c :: m) = if c.1 = a then some c.2 else Memory.find a m := rfl

/-- The byte just stored is the one found. -/
@[simp] theorem find_store_same (a : Nat) (b : Byte) (m : Memory) :
    Memory.find a (Memory.store a b m) = some b := by
  induction m with
  | nil => simp [Memory.store, find_cons]
  | cons c m ih =>
    unfold Memory.store
    split
    · simp [find_cons]
    · split <;> simp_all [find_cons]

/-- A store leaves every other address alone. -/
theorem find_store_other {a k : Nat} (h : k ≠ a) (b : Byte) (m : Memory) :
    Memory.find k (Memory.store a b m) = Memory.find k m := by
  induction m with
  | nil => simp [Memory.store, find_cons, h.symm]
  | cons c m ih =>
    unfold Memory.store
    split
    · simp [find_cons, h.symm]
    · split
      · next hc => simp [find_cons, h.symm, hc]
      · simp [find_cons, ih]

/-- A store keeps an address listed. -/
theorem find_store_isSome {k : Nat} {m : Memory} (h : (Memory.find k m).isSome = true) (a : Nat) (b : Byte) :
    (Memory.find k (Memory.store a b m)).isSome = true := by
  by_cases e : k = a
  · simp [e]
  · rw [find_store_other e]; exact h

theorem rising_cons_iff (c d : Host.Cell) (m : Memory) :
    Memory.rising (c :: d :: m) = true ↔ c.1 < d.1 ∧ Memory.rising (d :: m) = true := by
  simp [Memory.rising]

theorem rising_tail {c : Host.Cell} {m : Memory} (h : Memory.rising (c :: m) = true) :
    Memory.rising m = true := by
  cases m with
  | nil => rfl
  | cons d m => exact ((rising_cons_iff c d m).1 h).2

/-- A store keeps the addresses strictly rising, below any cell that stood before them. -/
theorem rising_store_under {c : Host.Cell} {a : Nat} (b : Byte) {m : Memory}
    (h : Memory.rising (c :: m) = true) (ha : c.1 < a) : Memory.rising (c :: Memory.store a b m) = true := by
  induction m generalizing c with
  | nil => simp [Memory.store, Memory.rising, ha]
  | cons d m ih =>
    obtain ⟨hcd, hd⟩ := (rising_cons_iff c d m).1 h
    unfold Memory.store
    split
    · next hlt => exact (rising_cons_iff _ _ _).2 ⟨ha, (rising_cons_iff _ _ _).2 ⟨hlt, hd⟩⟩
    · split
      · next he =>
        refine (rising_cons_iff _ _ _).2 ⟨ha, ?_⟩
        cases m with
        | nil => rfl
        | cons e m =>
          have := (rising_cons_iff d e m).1 hd
          exact (rising_cons_iff _ _ _).2 ⟨he ▸ this.1, this.2⟩
      · exact (rising_cons_iff _ _ _).2 ⟨hcd, ih hd (by omega)⟩

theorem rising_store {a : Nat} (b : Byte) {m : Memory} (h : Memory.rising m = true) :
    Memory.rising (Memory.store a b m) = true := by
  cases m with
  | nil => rfl
  | cons d m =>
    unfold Memory.store
    split
    · next hlt => exact (rising_cons_iff _ _ _).2 ⟨hlt, h⟩
    · split
      · next he =>
        cases m with
        | nil => rfl
        | cons e m =>
          have := (rising_cons_iff d e m).1 h
          exact (rising_cons_iff _ _ _).2 ⟨he ▸ this.1, this.2⟩
      · exact rising_store_under b h (by omega)

/-- Every listed cell after a store was listed before, or is the stored one. -/
theorem mem_store {a : Nat} {b : Byte} {m : Memory} {c : Host.Cell} (h : c ∈ Memory.store a b m) :
    c = (a, b) ∨ c ∈ m := by
  induction m with
  | nil => simpa [Memory.store] using h
  | cons d m ih =>
    unfold Memory.store at h
    split at h
    · simpa using h
    · split at h
      · rcases List.mem_cons.1 h with h | h
        · exact .inl h
        · exact .inr (List.mem_cons_of_mem _ h)
      · rcases List.mem_cons.1 h with h | h
        · exact .inr (h ▸ List.mem_cons_self ..)
        · exact (ih h).imp id (List.mem_cons_of_mem _)

/-- A store at an address of BUF keeps the canonical form. -/
theorem wf_store {p : Params} {a : Nat} (b : Byte) {m : Memory} (h : Memory.wf p m = true)
    (ha : a < p.bufCapacity) : Memory.wf p (Memory.store a b m) = true := by
  simp only [Memory.wf, Bool.and_eq_true, List.all_eq_true, decide_eq_true_eq] at h ⊢
  refine ⟨rising_store b h.1, fun c hc => ?_⟩
  rcases mem_store hc with rfl | hc
  · exact ha
  · exact h.2 c hc

@[simp] theorem wf_nil (p : Params) : Memory.wf p [] = true := rfl

/-- Every memory operation keeps the canonical form: `memWrite`. -/
theorem memWrite_wf {p : Params} {a : Nat} {b : Byte} {s t : State} (h : memWrite p a b s = some t)
    (hs : Memory.wf p s.buf = true) : Memory.wf p t.buf = true := by
  unfold memWrite at h
  split at h
  · next hb =>
    cases h
    exact wf_store b hs (by simp [inBuffer] at hb; omega)
  · cases h

/-- Every memory operation keeps the canonical form: `forgetBuffer`. -/
theorem forgetBuffer_wf (p : Params) (s : State) : Memory.wf p (forgetBuffer s).buf = true := rfl

/-- The reset memory has the canonical form. -/
theorem powerOn_wf (p q : Params) : Memory.wf p (State.powerOn q).buf = true := rfl

theorem reset_wf (p : Params) : Memory.wf p State.reset.buf = true := rfl

/-- All that a write to the buffer does. -/
theorem memWrite_eq {p : Params} {a : Nat} {b : Byte} {s : State} (h : a < p.bufCapacity) :
    memWrite p a b s = some { s with buf := Memory.store a b s.buf } := by
  simp [memWrite, inBuffer, Nat.succ_le_of_lt h]

/-- A write to an address that does not exist stores nothing. -/
theorem memWrite_none {p : Params} {a : Nat} {b : Byte} {s : State} (h : p.bufCapacity ≤ a) :
    memWrite p a b s = none := by
  simp [memWrite, inBuffer]; omega

/-- A byte reads alike in two states whose buffers agree. -/
theorem bufByte_congr {s t : State} (hb : t.buf = s.buf) (he : t.bufEpoch = s.bufEpoch) (a : Nat) :
    bufByte t a = bufByte s a := by
  simp [bufByte, hb, he]

/-- A range reads alike in two states whose buffers agree. -/
theorem memRead_congr {p : Params} {s t : State} (hb : t.buf = s.buf) (he : t.bufEpoch = s.bufEpoch)
    (a n : Nat) : memRead p t a n = memRead p s a n := by
  simp [memRead, bufByte, hb, he]

/-- The checksum field reads alike in two states whose buffers agree. -/
theorem loadField_congr {p : Params} {s t : State} (hb : t.buf = s.buf) (he : t.bufEpoch = s.bufEpoch)
    (a : Nat) : loadField p t a = loadField p s a := by
  simp [loadField, bufByte, hb, he]

/-- What a range inside the buffer reads as. -/
theorem memRead_eq {p : Params} {a n : Nat} (s : State) (h : a + n ≤ p.bufCapacity) :
    memRead p s a n = some ((List.range n).map fun k => bufByte s (a + k)) := by
  simp [memRead, inBuffer, h]

/-- A range that leaves the buffer does not read. -/
theorem memRead_none {p : Params} {a n : Nat} (s : State) (h : p.bufCapacity < a + n) :
    memRead p s a n = none := by
  simp [memRead, inBuffer]; omega

/-- A range that reads has as many bytes as were asked for. -/
theorem memRead_length {p : Params} {s : State} {a n : Nat} {d : List Byte} (h : memRead p s a n = some d) :
    d.length = n := by
  unfold memRead at h
  split at h
  · cases h; simp
  · cases h

/-- What the checksum field inside the buffer reads as. -/
theorem loadField_eq {p : Params} {a : Nat} (s : State) (h : a + 4 ≤ p.bufCapacity) :
    loadField p s a = some (load32 p.chkByteOrder (bufByte s a) (bufByte s (a + 1)) (bufByte s (a + 2))
      (bufByte s (a + 3))) := by
  simp [loadField, inBuffer, h]

end Sys2Proof.Machine
end

