-- ==== Sys2Proof/Laws/Ops.lean ====
section
/-! SUPPORT. What each shared operation can do, said once. -/

namespace Sys2Proof.Machine

/-! ## Guards -/

/-- A guarded step either happens, its guard holding, or leaves the state as it is. -/
theorem guarded_next {i : Instr} {s t : State} {e : Outcome} (h : guarded i s e = .next t) :
    (enabled i s = true ∧ e = .next t) ∨ (enabled i s = false ∧ t = s) := by
  unfold guarded at h
  cases hg : enabled i s <;> simp_all

@[simp] theorem guarded_true {i : Instr} {s : State} (h : enabled i s = true) (e : Outcome) :
    guarded i s e = e := by simp [guarded, h]

@[simp] theorem guarded_false {i : Instr} {s : State} (h : enabled i s = false) (e : Outcome) :
    guarded i s e = .next s := by simp [guarded, h]

@[simp] theorem enabled_readyHigh (s : State) : enabled .readyHigh s = true ↔ s.readyIn = false := by
  simp [enabled]

@[simp] theorem enabled_readyLow (s : State) : enabled .readyLow s = true ↔ s.readyIn = true := by
  simp [enabled]

@[simp] theorem enabled_edgeSample (s : State) :
    enabled .edgeSample s = true ↔ s.bound = true ∧ s.unbinding = false ∧ s.readyPrev ≠ s.readyIn := by
  simp [enabled, and_assoc]

@[simp] theorem enabled_take (s : State) :
    enabled .take s = true ↔ s.bound = true ∧ s.phase = .idle ∧ s.pending = true := by
  simp [enabled, and_assoc]

@[simp] theorem enabled_assertBusy (s : State) :
    enabled .assertBusy s = true ↔ s.bound = true ∧ s.phase = .taken := by simp [enabled]

@[simp] theorem enabled_readBlock (s : State) :
    enabled .readBlock s = true ↔ s.bound = true ∧ s.phase = .asserted := by simp [enabled]

@[simp] theorem enabled_deassertBusy (s : State) :
    enabled .deassertBusy s = true ↔ s.bound = true ∧ (s.phase = .readDone ∨ s.phase = .readFailed) := by
  simp [enabled]

@[simp] theorem enabled_crcValidate (s : State) :
    enabled .crcValidate s = true ↔ s.bound = true ∧ s.phase = .validate := by simp [enabled]

@[simp] theorem enabled_deliver (s : State) :
    enabled .deliver s = true ↔ s.bound = true ∧ s.phase = .deliver := by simp [enabled]

@[simp] theorem enabled_busByte (b : Byte) (s : State) :
    enabled (.busByte b) s = true ↔ s.bound = true ∧ s.phase = .reading ∧ s.busCount < blockLen s := by
  simp [enabled, and_assoc]

@[simp] theorem enabled_busEnd (s : State) :
    enabled .busEnd s = true ↔ s.bound = true ∧ s.phase = .reading ∧ s.busCount = blockLen s := by
  simp [enabled, and_assoc]

@[simp] theorem enabled_busError (s : State) :
    enabled .busError s = true ↔ s.bound = true ∧ s.phase = .reading := by simp [enabled]

/-! ## Lengths -/

@[simp] theorem engine_wellFormed : Config.engine.wellFormed = true := by decide

/-- A payload length that fits the buffer does not wrap BLOCK_LEN (R35, R181). -/
theorem blockLen_toNat {p : Params} {s : State} (hp : p.wellFormed = true)
    (h : lengthFits p s.cfgPayloadLen = true) :
    (blockLen s).toNat = payloadLen s + 4 ∧ payloadLen s + 4 ≤ p.bufCapacity := by
  have hf : s.cfgPayloadLen.toNat + 4 ≤ p.bufCapacity := by simpa [lengthFits] using h
  have hc : p.bufCapacity < 2 ^ 32 := by
    simp only [Params.wellFormed, Bool.and_eq_true, decide_eq_true_eq] at hp
    exact hp.2
  refine ⟨?_, hf⟩
  simp only [blockLen, payloadLen, BitVec.toNat_add]
  simp
  omega

/-! ## The latch -/

/-- What a latched result is (R175). -/
theorem latchedResult_ok {p : Params} {s : State} {r : TransferResult} (h : latchedResult p s = .ok r) :
    (s.resKind = .ok ∧ ∃ payload, memRead p s 0 (payloadLen s) = some payload ∧ r = .ok payload)
    ∨ (s.resKind = .busError ∧ r = .busError)
    ∨ (s.resKind = .mismatch ∧ r = .mismatch s.resExpected s.resReceived) := by
  unfold latchedResult at h
  split at h
  · cases h
  · next hk =>
    split at h
    · next payload hp => cases h; exact .inl ⟨hk, payload, hp, rfl⟩
    · cases h
  · next hk => cases h; exact .inr (.inl ⟨hk, rfl⟩)
  · next hk => cases h; exact .inr (.inr ⟨hk, rfl⟩)

/-- What the verdict leaves in the latch (R132). -/
theorem latchVerdict_cases (p : Params) (d : List Byte) (w : Word) (s : State) :
    (crc32be p d = w ∧ latchVerdict p d w s = latch .ok 0#32 0#32 s)
    ∨ (crc32be p d ≠ w ∧ latchVerdict p d w s = latch .mismatch (crc32be p d) w s) := by
  unfold latchVerdict
  split
  · exact .inl ⟨‹_›, rfl⟩
  · exact .inr ⟨‹_›, rfl⟩

/-! ## The CRC -/

@[simp] theorem crcRegister_nil (p : Params) (c : Word) : crcRegister p c [] = c := rfl

@[simp] theorem crcRegister_cons (p : Params) (c : Word) (b : Byte) (d : List Byte) :
    crcRegister p c (b :: d) = crcRegister p (crcByte p c b) d := rfl

theorem crcRegister_append (p : Params) (c : Word) (d e : List Byte) :
    crcRegister p c (d ++ e) = crcRegister p (crcRegister p c d) e := by
  simp [crcRegister, List.foldl_append]

/-! ## Control-port registers -/

/-- The number of a register names it (R31). -/
theorem regOfNumber_regNumber (reg : ControlReg) : regOfNumber (regNumber reg) = some reg := by
  cases reg <;> decide

/-- A number that names a register is that register's (R31, R38). -/
theorem regNumber_of_regOfNumber {r : Word} {reg : ControlReg} (h : regOfNumber r = some reg) :
    r = regNumber reg := by
  unfold regOfNumber at h
  split at h
  · cases h; assumption
  split at h
  · cases h; assumption
  split at h
  · cases h; assumption
  split at h
  · cases h; assumption
  split at h
  · cases h; assumption
  split at h
  · cases h; assumption
  · cases h

/-- What a register write can do (R184): nothing but an error answer, or one configuration register while unbound. -/
theorem writeControlReg_cases (r v : Word) (s : State) :
    (s.bound = false ∧ regOfNumber r = some .cfgClkHz
      ∧ writeControlReg r v s = (.ok, { s with cfgClkHz := v }))
    ∨ (s.bound = false ∧ regOfNumber r = some .cfgPayloadLen
      ∧ writeControlReg r v s = (.ok, { s with cfgPayloadLen := v }))
    ∨ (s.bound = true ∧ (regOfNumber r = some .cfgClkHz ∨ regOfNumber r = some .cfgPayloadLen)
      ∧ writeControlReg r v s = (.errState, s))
    ∨ (regOfNumber r ≠ some .cfgClkHz ∧ regOfNumber r ≠ some .cfgPayloadLen
      ∧ writeControlReg r v s = (.errReg, s)) := by
  unfold writeControlReg
  cases hb : s.bound <;> cases hr : regOfNumber r with
  | none => simp
  | some reg => cases reg <;> simp

/-! ## Inputs -/

@[simp] theorem head_push {α : Type} (free : Nat → α) (x : α) (xs : List α) (f : Feed α) :
    (f.push (x :: xs)).head free = x := rfl

@[simp] theorem tail_push {α : Type} (x : α) (xs : List α) (f : Feed α) :
    (f.push (x :: xs)).tail = f.push xs := rfl

@[simp] theorem push_nil {α : Type} (f : Feed α) : f.push [] = f := rfl

/-- An agent's word names a step of PERIPH, EDGE, WORKER or BUS. -/
theorem agentStep_some {w : Word} {i : Instr} (h : agentStep w = some i) :
    i.agent ≠ .host ∧ ∃ rest, decode [w] = .ok (i, rest) := by
  unfold agentStep at h
  split at h
  · next j rest hd =>
    split at h
    · cases h
    · next hn => cases h; exact ⟨hn, rest, hd⟩
  · cases h

/-- A command is a host-class operation. -/
theorem portCommand_some {s : State} {i : Instr} (h : portCommand s = some i) :
    i.agent = .host ∧ ∃ rest, decode (portWords s) = .ok (i, rest) := by
  unfold portCommand at h
  split at h
  · next j rest hd =>
    split at h
    · next hn => cases h; exact ⟨hn, rest, hd⟩
    · cases h
  · cases h

end Sys2Proof.Machine
end

