-- ==== Sys2Proof/Laws/Exec.lean ====
section
/-! SUPPORT. One inversion lemma per meaning: what its next state is when it answers one. -/

namespace Sys2Proof.Machine

theorem execReadyHigh_next {s t : State} (h : execReadyHigh s = .next t) :
    (s.readyIn = false ∧ t = record (.op (opWord .readyHigh)) { s with readyIn := true }) ∨ t = s := by
  rcases guarded_next h with ⟨hg, he⟩ | ⟨-, rfl⟩
  · cases he; exact .inl ⟨(enabled_readyHigh s).1 hg, rfl⟩
  · exact .inr rfl

theorem execReadyLow_next {s t : State} (h : execReadyLow s = .next t) :
    (s.readyIn = true ∧ t = record (.op (opWord .readyLow)) { s with readyIn := false }) ∨ t = s := by
  rcases guarded_next h with ⟨hg, he⟩ | ⟨-, rfl⟩
  · cases he; exact .inl ⟨(enabled_readyLow s).1 hg, rfl⟩
  · exact .inr rfl

theorem execEdgeSample_next {s t : State} (h : execEdgeSample s = .next t) :
    ((s.bound = true ∧ s.unbinding = false ∧ s.readyPrev ≠ s.readyIn)
      ∧ t = record (.op (opWord .edgeSample))
          { s with pending := s.pending || (!s.readyPrev && s.readyIn), readyPrev := s.readyIn })
    ∨ t = s := by
  rcases guarded_next h with ⟨hg, he⟩ | ⟨-, rfl⟩
  · cases he; exact .inl ⟨(enabled_edgeSample s).1 hg, rfl⟩
  · exact .inr rfl

theorem execTake_next {s t : State} (h : execTake s = .next t) :
    ((s.bound = true ∧ s.phase = .idle ∧ s.pending = true)
      ∧ t = record (.op (opWord .take)) (enterAttempt s)) ∨ t = s := by
  rcases guarded_next h with ⟨hg, he⟩ | ⟨-, rfl⟩
  · cases he; exact .inl ⟨(enabled_take s).1 hg, rfl⟩
  · exact .inr rfl

theorem execAssertBusy_next {s t : State} (h : execAssertBusy s = .next t) :
    ((s.bound = true ∧ s.phase = .taken)
      ∧ t = record (.op (opWord .assertBusy)) { s with busyOut := true, phase := .asserted }) ∨ t = s := by
  rcases guarded_next h with ⟨hg, he⟩ | ⟨-, rfl⟩
  · cases he; exact .inl ⟨(enabled_assertBusy s).1 hg, rfl⟩
  · exact .inr rfl

theorem execReadBlock_next {s t : State} (h : execReadBlock s = .next t) :
    ((s.bound = true ∧ s.phase = .asserted)
      ∧ t = record (.op (opWord .readBlock))
          { s with csActive := true, busCount := 0#32, phase := .reading }) ∨ t = s := by
  rcases guarded_next h with ⟨hg, he⟩ | ⟨-, rfl⟩
  · cases he; exact .inl ⟨(enabled_readBlock s).1 hg, rfl⟩
  · exact .inr rfl

theorem execBusByteWith_next {b : Byte} {p : Params} {s t : State} (h : execBusByteWith p b s = .next t) :
    ((s.bound = true ∧ s.phase = .reading ∧ s.busCount < blockLen s)
      ∧ s.busCount.toNat < p.bufCapacity
      ∧ t = record (.busByte (opWord (.busByte b)) b)
          { s with buf := Memory.store s.busCount.toNat b s.buf, busCount := s.busCount + 1#32 }) ∨ t = s := by
  rcases guarded_next h with ⟨hg, he⟩ | ⟨-, rfl⟩
  · by_cases hc : s.busCount.toNat < p.bufCapacity
    · rw [memWrite_eq hc] at he
      cases he
      exact .inl ⟨(enabled_busByte b s).1 hg, hc, rfl⟩
    · rw [memWrite_none (by omega)] at he
      cases he
  · exact .inr rfl

theorem execBusByte_next {b : Byte} {s t : State} (h : execBusByte b s = .next t) :
    ((s.bound = true ∧ s.phase = .reading ∧ s.busCount < blockLen s)
      ∧ s.busCount.toNat < Config.engine.bufCapacity
      ∧ t = record (.busByte (opWord (.busByte b)) b)
          { s with buf := Memory.store s.busCount.toNat b s.buf, busCount := s.busCount + 1#32 }) ∨ t = s :=
  execBusByteWith_next h

theorem execBusEnd_next {s t : State} (h : execBusEnd s = .next t) :
    ((s.bound = true ∧ s.phase = .reading ∧ s.busCount = blockLen s)
      ∧ t = record (.op (opWord .busEnd)) { s with csActive := false, phase := .readDone }) ∨ t = s := by
  rcases guarded_next h with ⟨hg, he⟩ | ⟨-, rfl⟩
  · cases he; exact .inl ⟨(enabled_busEnd s).1 hg, rfl⟩
  · exact .inr rfl

theorem execBusError_next {s t : State} (h : execBusError s = .next t) :
    ((s.bound = true ∧ s.phase = .reading)
      ∧ t = record (.op (opWord .busError)) { s with csActive := false, phase := .readFailed }) ∨ t = s := by
  rcases guarded_next h with ⟨hg, he⟩ | ⟨-, rfl⟩
  · cases he; exact .inl ⟨(enabled_busError s).1 hg, rfl⟩
  · exact .inr rfl

theorem execDeassertBusy_next {s t : State} (h : execDeassertBusy s = .next t) :
    ((s.bound = true ∧ s.phase = .readDone)
      ∧ t = record (.op (opWord .deassertBusy)) { s with busyOut := false, phase := .validate })
    ∨ ((s.bound = true ∧ s.phase = .readFailed)
      ∧ t = record (.op (opWord .deassertBusy))
          (latch .busError 0#32 0#32 { s with busyOut := false, phase := .deliver }))
    ∨ t = s := by
  rcases guarded_next h with ⟨hg, he⟩ | ⟨-, rfl⟩
  · obtain ⟨hb, hp | hp⟩ := (enabled_deassertBusy s).1 hg
    · rw [if_pos hp] at he; cases he; exact .inl ⟨⟨hb, hp⟩, rfl⟩
    · rw [if_neg (by simp [hp])] at he; cases he; exact .inr (.inl ⟨⟨hb, hp⟩, rfl⟩)
  · exact .inr (.inr rfl)

theorem execCrcValidateWith_next {p : Params} {s t : State} (h : execCrcValidateWith p s = .next t) :
    (∃ payload received, (s.bound = true ∧ s.phase = .validate)
      ∧ memRead p s 0 (payloadLen s) = some payload
      ∧ loadField p s (payloadLen s) = some received
      ∧ t = record (.op (opWord .crcValidate))
          { latchVerdict p payload received s with phase := .deliver }) ∨ t = s := by
  rcases guarded_next h with ⟨hg, he⟩ | ⟨-, rfl⟩
  · unfold validateBlock at he
    split at he
    · next payload received hp hr =>
      cases he; exact .inl ⟨payload, received, (enabled_crcValidate s).1 hg, hp, hr, rfl⟩
    · cases he
  · exact .inr rfl

theorem execCrcValidate_next {s t : State} (h : execCrcValidate s = .next t) :
    (∃ payload received, (s.bound = true ∧ s.phase = .validate)
      ∧ memRead Config.engine s 0 (payloadLen s) = some payload
      ∧ loadField Config.engine s (payloadLen s) = some received
      ∧ t = record (.op (opWord .crcValidate))
          { latchVerdict Config.engine payload received s with phase := .deliver }) ∨ t = s :=
  execCrcValidateWith_next h

theorem execDeliverWith_next {p : Params} {s t : State} (h : execDeliverWith p s = .next t) :
    (∃ r, (s.bound = true ∧ s.phase = .deliver) ∧ latchedResult p s = .ok r
      ∧ t = record (.deliver (opWord .deliver) r) (leaveAttempt r s)) ∨ t = s := by
  rcases guarded_next h with ⟨hg, he⟩ | ⟨-, rfl⟩
  · split at he
    · next r hr => cases he; exact .inl ⟨r, (enabled_deliver s).1 hg, hr, rfl⟩
    · cases he
  · exact .inr rfl

theorem execDeliver_next {s t : State} (h : execDeliver s = .next t) :
    (∃ r, (s.bound = true ∧ s.phase = .deliver) ∧ latchedResult Config.engine s = .ok r
      ∧ t = record (.deliver (opWord .deliver) r) (leaveAttempt r s)) ∨ t = s :=
  execDeliverWith_next h

/-- BIND refuses exactly when R181 says so. -/
theorem bindRefused_iff (p : Params) (ok : Bool) (s : State) :
    bindRefused p ok s = true ↔ s.cfgClkHz = 0#32 ∨ lengthFits p s.cfgPayloadLen = false ∨ ok = false := by
  simp [bindRefused, or_assoc]

theorem execBindWith_next {p : Params} {s t : State} (h : execBindWith p s = .next t) :
    (s.bound = true
      ∧ t = reply (.bind (opWord .bind) (resourcesOk s)) .errState 0#32 (dropDraw s))
    ∨ (s.bound = false ∧ bindRefused p (resourcesOk s) s = true
      ∧ t = reply (.bind (opWord .bind) (resourcesOk s)) .errBind 0#32 (dropDraw s))
    ∨ (s.bound = false ∧ bindRefused p (resourcesOk s) s = false
      ∧ t = reply (.bind (opWord .bind) (resourcesOk s)) .ok 0#32 (openSession (dropDraw s))) := by
  unfold execBindWith at h
  split at h
  · cases h; exact .inl ⟨‹_›, rfl⟩
  · next hb =>
    split at h
    · next hr => cases h; exact .inr (.inl ⟨by simpa using hb, hr, rfl⟩)
    · next hr => cases h; exact .inr (.inr ⟨by simpa using hb, by simpa using hr, rfl⟩)

theorem execBind_next {s t : State} (h : execBind s = .next t) :
    (s.bound = true
      ∧ t = reply (.bind (opWord .bind) (resourcesOk s)) .errState 0#32 (dropDraw s))
    ∨ (s.bound = false ∧ bindRefused Config.engine (resourcesOk s) s = true
      ∧ t = reply (.bind (opWord .bind) (resourcesOk s)) .errBind 0#32 (dropDraw s))
    ∨ (s.bound = false ∧ bindRefused Config.engine (resourcesOk s) s = false
      ∧ t = reply (.bind (opWord .bind) (resourcesOk s)) .ok 0#32 (openSession (dropDraw s))) :=
  execBindWith_next h

theorem execUnbind_next {s t : State} (h : execUnbind s = .next t) :
    ((s.bound = false ∨ s.unbinding = true)
      ∧ t = reply (.unbind (opWord .unbind)) .errState 0#32 s)
    ∨ ((s.bound = true ∧ s.unbinding = false ∧ s.phase = .idle)
      ∧ t = reply (.unbind (opWord .unbind)) .ok 0#32 (teardown s))
    ∨ ((s.bound = true ∧ s.unbinding = false ∧ s.phase ≠ .idle)
      ∧ t = reply (.unbind (opWord .unbind)) .pending 0#32 (deferUnbind s)) := by
  unfold execUnbind at h
  split at h
  · next hu => cases h; exact .inl ⟨by simpa using hu, rfl⟩
  · next hu =>
    have hu' : s.bound = true ∧ s.unbinding = false := by simpa using hu
    split at h
    · next hp => cases h; exact .inr (.inl ⟨⟨hu'.1, hu'.2, hp⟩, rfl⟩)
    · next hp => cases h; exact .inr (.inr ⟨⟨hu'.1, hu'.2, hp⟩, rfl⟩)

theorem execRegReadWith_next {r : Word} {p : Params} {s t : State} (h : execRegReadWith p r s = .next t) :
    (∃ reg, regOfNumber r = some reg
      ∧ t = reply (.regRead (opWord (.regRead r))) .ok (readControlReg p s reg) s)
    ∨ (regOfNumber r = none ∧ t = reply (.regRead (opWord (.regRead r))) .errReg 0#32 s) := by
  unfold execRegReadWith at h
  split at h
  · next reg hr => cases h; exact .inl ⟨reg, hr, rfl⟩
  · next hr => cases h; exact .inr ⟨hr, rfl⟩

theorem execRegRead_next {r : Word} {s t : State} (h : execRegRead r s = .next t) :
    (∃ reg, regOfNumber r = some reg
      ∧ t = reply (.regRead (opWord (.regRead r))) .ok (readControlReg Config.engine s reg) s)
    ∨ (regOfNumber r = none ∧ t = reply (.regRead (opWord (.regRead r))) .errReg 0#32 s) :=
  execRegReadWith_next h

theorem execRegWrite_next {r v : Word} {s t : State} (h : execRegWrite r v s = .next t) :
    t = reply (.regWrite (opWord (.regWrite r v)) v) (writeControlReg r v s).1 0#32
      (writeControlReg r v s).2 := by
  cases h; rfl

/-- What one move does, said once. -/
theorem makeMove_next {run : Instr → State → Outcome} {reset : Bool → State → State} {m : Move} {s t : State}
    (h : makeMove run reset m s = .next t) :
    (∃ i, m = .host ∧ portCommand s = some i ∧ run i (dropPort i.wordCount s) = .next t)
    ∨ (m = .host ∧ portCommand s = none ∧ t = rejectCommand s)
    ∨ (∃ w i, m = .agent w ∧ agentStep w = some i ∧ run i s = .next t)
    ∨ (∃ w, m = .agent w ∧ agentStep w = none ∧ t = s)
    ∨ (∃ ready, m = .hardwareReset ready ∧ t = reset ready s) := by
  cases m with
  | host =>
    simp only [makeMove] at h
    split at h
    · next i hi => exact .inl ⟨i, rfl, hi, h⟩
    · next hi => cases h; exact .inr (.inl ⟨rfl, hi, rfl⟩)
  | agent w =>
    simp only [makeMove] at h
    split at h
    · next i hi => exact .inr (.inr (.inl ⟨w, i, rfl, hi, h⟩))
    · next hi => cases h; exact .inr (.inr (.inr (.inl ⟨w, rfl, hi, rfl⟩)))
  | hardwareReset ready => cases h; exact .inr (.inr (.inr (.inr ⟨ready, rfl, rfl⟩)))

/-- What one move of this engine does. -/
theorem stepMove_next {m : Move} {s t : State} (h : stepMove m s = .next t) :
    (∃ i, m = .host ∧ portCommand s = some i ∧ exec i (dropPort i.wordCount s) = .next t)
    ∨ (m = .host ∧ portCommand s = none ∧ t = rejectCommand s)
    ∨ (∃ w i, m = .agent w ∧ agentStep w = some i ∧ exec i s = .next t)
    ∨ (∃ w, m = .agent w ∧ agentStep w = none ∧ t = s)
    ∨ (∃ ready, m = .hardwareReset ready ∧ t = hardwareReset Config.engine ready s) :=
  makeMove_next h

end Sys2Proof.Machine
end

