-- ==== Sys2Proof/Laws/History.lean ====
section
/-! SUPPORT. What one more event does to each reading of the history, and which events are well formed. -/

namespace Sys2Proof.Machine

theorem busyBalance_append (h : List Event) (e : Event) :
    busyBalance (h ++ [e]) = match e with
      | .reset => 0
      | .op w => if w = opWord .assertBusy then busyBalance h + 1
        else if w = opWord .deassertBusy then busyBalance h - 1 else busyBalance h
      | _ => busyBalance h := by
  cases e <;> simp [busyBalance]

theorem busyBracket_append (h : List Event) (e : Event) :
    busyBracket (h ++ [e]) = bracketStep (fun e => e = .op (opWord .assertBusy))
      (fun e => e = .op (opWord .deassertBusy)) (busyBracket h) e := by
  simp [busyBracket]

theorem attemptBracket_append (h : List Event) (e : Event) :
    attemptBracket (h ++ [e]) =
      bracketStep (fun e => e = .op (opWord .take)) isDeliver (attemptBracket h) e := by
  simp [attemptBracket]

theorem delivered_append (h : List Event) (e : Event) :
    delivered (h ++ [e]) = delivered h ++ match e with
      | .deliver _ r => [r]
      | _ => [] := by
  cases e <;> simp [delivered]

theorem answers_append (h : List Event) (e : Event) :
    answers (h ++ [e]) = answers h ++ match e with
      | .bind _ _ r | .unbind _ r | .regRead _ r | .regWrite _ _ r => [r]
      | _ => [] := by
  cases e <;> simp [answers]

/-- The event of a step of PERIPH, EDGE, WORKER or BUS that is recorded by its word alone. -/
theorem eventWellFormed_op {i : Instr} (h : i.agent ≠ .host) (hb : ∀ b, i ≠ .busByte b) (hd : i ≠ .deliver) :
    eventWellFormed (.op (opWord i)) = true := by
  cases i <;> first
    | (simp [Instr.agent] at h; done)
    | (simp at hb; done)
    | (simp at hd; done)
    | decide

theorem eventWellFormed_busByte (b : Byte) : eventWellFormed (.busByte (opWord (.busByte b)) b) = true := by
  simp [eventWellFormed, agentStep, decode, Instr.opc, Instr.arg, Instr.agent]

theorem eventWellFormed_deliver (r : TransferResult) :
    eventWellFormed (.deliver (opWord .deliver) r) = true := rfl

theorem eventWellFormed_bind (ok : Bool) (r : Response) :
    eventWellFormed (.bind (opWord .bind) ok r) = true := rfl

theorem eventWellFormed_unbind (r : Response) : eventWellFormed (.unbind (opWord .unbind) r) = true := rfl

theorem eventWellFormed_regRead (n : Word) (r : Response) :
    eventWellFormed (.regRead (opWord (.regRead n)) r) = true := by
  simp [eventWellFormed, decode, Instr.opc, Instr.arg]

theorem eventWellFormed_regWrite (n v : Word) (r : Response) :
    eventWellFormed (.regWrite (opWord (.regWrite n v)) v r) = true := by
  simp [eventWellFormed, decode, Instr.opc, Instr.arg]

/-- Two states that agree in every field but the environment's inputs meet the invariants together. -/
theorem engineInv_inputs {p : Params} {s : State} (h : EngineInvWith p s) (m : Feed Move) (w : Feed Word) (d : Feed Bool) :
    EngineInvWith p { s with moves := m, port := w, draws := d } :=
  ⟨h.unbound, h.busy, h.chipSelect, h.count, h.length, h.latched, h.unbinding, h.balance, h.busyPairs,
    h.attemptPairs, h.latchClear, h.latchMismatch, h.latchOk, h.complete, h.known, h.memory, h.history,
    h.results, h.sound, h.answered⟩

end Sys2Proof.Machine
end

