-- ==== Sys2Proof/Laws/PerInstr.lean ====
section
/-! SUPPORT. What is said of every operation as syntax, one lemma per constructor. -/

namespace Sys2Proof.Laws

/-- The class nibble of the operation word is the operation's agent (R73). -/
def OpcodeClass.Statement (i : Instr) : Prop := classOf (opWord i) = some i.agent

/-- The class nibble of a word is read from its OPC. -/
theorem classOf_eq (w : Word) : classOf w = classOf ((opcOf w).setWidth 32) := by
  have : w.extractLsb' 4 4 = ((opcOf w).setWidth 32 : Word).extractLsb' 4 4 := by
    apply BitVec.eq_of_getLsbD_eq
    intro i hi
    have h8 : 4 + i < 8 := by omega
    have h32 : 4 + i < 32 := by omega
    simp [opcOf, hi, h8, h32]
  simp only [classOf, this]

/-- It is enough to look at the operation code. -/
theorem opcodeClass_of_opc {i : Instr} (h : classOf (i.opc.setWidth 32) = some i.agent) :
    OpcodeClass.Statement i := by
  unfold OpcodeClass.Statement
  rw [classOf_eq, opcOf_opWord, h]

theorem OpcodeClass.bind : OpcodeClass.Statement .bind := opcodeClass_of_opc (by decide)
theorem OpcodeClass.unbind : OpcodeClass.Statement .unbind := opcodeClass_of_opc (by decide)
theorem OpcodeClass.regRead (r : Word) : OpcodeClass.Statement (.regRead r) :=
  opcodeClass_of_opc (show classOf ((0x03#8).setWidth 32) = some .host by decide)
theorem OpcodeClass.regWrite (r data : Word) : OpcodeClass.Statement (.regWrite r data) :=
  opcodeClass_of_opc (show classOf ((0x04#8).setWidth 32) = some .host by decide)
theorem OpcodeClass.readyLow : OpcodeClass.Statement .readyLow := opcodeClass_of_opc (by decide)
theorem OpcodeClass.readyHigh : OpcodeClass.Statement .readyHigh := opcodeClass_of_opc (by decide)
theorem OpcodeClass.edgeSample : OpcodeClass.Statement .edgeSample := opcodeClass_of_opc (by decide)
theorem OpcodeClass.take : OpcodeClass.Statement .take := opcodeClass_of_opc (by decide)
theorem OpcodeClass.assertBusy : OpcodeClass.Statement .assertBusy := opcodeClass_of_opc (by decide)
theorem OpcodeClass.readBlock : OpcodeClass.Statement .readBlock := opcodeClass_of_opc (by decide)
theorem OpcodeClass.deassertBusy : OpcodeClass.Statement .deassertBusy := opcodeClass_of_opc (by decide)
theorem OpcodeClass.crcValidate : OpcodeClass.Statement .crcValidate := opcodeClass_of_opc (by decide)
theorem OpcodeClass.deliver : OpcodeClass.Statement .deliver := opcodeClass_of_opc (by decide)
theorem OpcodeClass.busByte (b : Byte) : OpcodeClass.Statement (.busByte b) :=
  opcodeClass_of_opc (show classOf ((0x40#8).setWidth 32) = some .bus by decide)
theorem OpcodeClass.busError : OpcodeClass.Statement .busError := opcodeClass_of_opc (by decide)
theorem OpcodeClass.busEnd : OpcodeClass.Statement .busEnd := opcodeClass_of_opc (by decide)

end Sys2Proof.Laws
end

