-- ==== Sys2Proof/Tests/Slice0.lean ====
section
/-! SUPPORT. Tests: each one's expected result is in spec/ (the rule or the vector V<n> of 95_test_vectors.md named in its
comment), and for each statement of Obligations.lean with hypotheses a theorem `witness_<statement>` that meets them. -/

namespace Sys2Proof.Tests

open Sys2Proof.Machine

/-! ## Well-formedness -/

/-- R75: a register number is 8 bits wide. -/
theorem test_wellFormed_refuses_wide_regRead : Instr.wellFormed (.regRead 0x100#32) = false := by decide
theorem test_wellFormed_refuses_wide_regWrite : Instr.wellFormed (.regWrite 0x100#32 0#32) = false := by decide
/-- R77: a reserved register number is well formed. -/
theorem test_wellFormed_reserved_register : Instr.wellFormed (.regRead 0xFF#32) = true := by decide

/-! ## Decoding: words written out from R71 and the rows of R74 -/

theorem test_decode_bind : decode [0x00000001#32] = .ok (.bind, []) := by decide
theorem test_decode_unbind : decode [0x00000002#32] = .ok (.unbind, []) := by decide
theorem test_decode_regRead : decode [0x00000303#32] = .ok (.regRead 3#32, []) := by decide
/-- V70. -/
theorem test_decode_regWrite : decode [0x00000104#32, 0x00000005#32] = .ok (.regWrite 1#32 5#32, []) := by decide
theorem test_decode_readyLow : decode [0x00000010#32] = .ok (.readyLow, []) := by decide
theorem test_decode_readyHigh : decode [0x00000011#32] = .ok (.readyHigh, []) := by decide
theorem test_decode_edgeSample : decode [0x00000020#32] = .ok (.edgeSample, []) := by decide
theorem test_decode_take : decode [0x00000030#32] = .ok (.take, []) := by decide
theorem test_decode_assertBusy : decode [0x00000031#32] = .ok (.assertBusy, []) := by decide
theorem test_decode_readBlock : decode [0x00000032#32] = .ok (.readBlock, []) := by decide
theorem test_decode_deassertBusy : decode [0x00000033#32] = .ok (.deassertBusy, []) := by decide
theorem test_decode_crcValidate : decode [0x00000034#32] = .ok (.crcValidate, []) := by decide
theorem test_decode_deliver : decode [0x00000035#32] = .ok (.deliver, []) := by decide
/-- V11. -/
theorem test_decode_busByte : decode [0x0000DE40#32] = .ok (.busByte 0xDE#8, []) := by decide
theorem test_decode_busError : decode [0x00000041#32] = .ok (.busError, []) := by decide
theorem test_decode_busEnd : decode [0x00000042#32] = .ok (.busEnd, []) := by decide

/-- V74, R78: the all-zero word is INVALID. -/
theorem test_decode_zero : decode [0x00000000#32] = .error (.reservedOpcode 0#8) := by decide
/-- V76: BIND with ARG = 1. -/
theorem test_decode_argNotZero : decode [0x00000101#32] = .error (.argNotZero 1#8) := by decide
/-- V77: RSV is not 0. -/
theorem test_decode_reservedBits : decode [0x00010004#32, 0x00000003#32] = .error .reservedBits := by decide
/-- R78: a reserved class. -/
theorem test_decode_reservedClass : decode [0x00000050#32] = .error (.reservedOpcode 0x50#8) := by decide
/-- R76: REG_WRITE has two words. -/
theorem test_decode_missingData : decode [0x00000104#32] = .error .missingData := by decide

/-! ## The CRC and the checksum field: the vectors of 95_test_vectors.md 2.3 -/

theorem test_crc_zeros : crc32be Config.engine (List.replicate 16 0#8) = 0x552D22C8#32 := by decide +kernel
theorem test_crc_deadbeef : crc32be Config.engine [0xDE#8, 0xAD#8, 0xBE#8, 0xEF#8] = 0x81DA1A18#32 := by
  decide +kernel
/-- The parameter variant of V28. -/
theorem test_crc_xorout :
    crc32be { Config.engine with crcXorout := 0xFFFFFFFF#32 } (List.replicate 16 0#8) = 0xAAD2DD37#32 := by
  decide +kernel
/-- S1 at little-endian, V27 at big-endian. -/
theorem test_load32_le : load32 .le 0xC8#8 0x22#8 0x2D#8 0x55#8 = 0x552D22C8#32 := by decide
theorem test_load32_be : load32 .be 0x55#8 0x2D#8 0x22#8 0xC8#8 = 0x552D22C8#32 := by decide

/-! ## States the tests start from -/

/-- A bound engine in Idle with a 4-byte payload, as in 95_test_vectors.md 2.2. -/
def session : State := { State.reset with bound := true, cfgClkHz := 1000000#32, cfgPayloadLen := 4#32 }

/-- The engine before a BIND, configured. -/
def configured : State := { State.reset with cfgClkHz := 1000000#32, cfgPayloadLen := 4#32 }

/-- An attempt just taken. -/
def taken : State := { session with phase := .taken, hist := [.op 0x30#32] }

/-- An attempt with BUSY asserted. -/
def asserted : State :=
  { session with phase := .asserted, busyOut := true, hist := [.op 0x30#32, .op 0x31#32] }

/-- A transaction with nothing received yet. -/
def reading : State :=
  { session with
    phase := .reading, busyOut := true, csActive := true, hist := [.op 0x30#32, .op 0x31#32, .op 0x32#32] }

/-- The eight bytes of V23, which fill the block. -/
def block : List Byte := [0xDE#8, 0xAD#8, 0xBE#8, 0xEF#8, 0x18#8, 0x1A#8, 0xDA#8, 0x81#8]

/-- Bytes listed from address 0 on. -/
def listed (bytes : List Byte) : Memory := (List.range bytes.length).zip bytes

/-- A transaction with the whole block received. -/
def full : State :=
  { reading with
    busCount := 8#32, buf := listed block
    hist := reading.hist ++ block.map fun b => .busByte (opWord (.busByte b)) b }

/-- The read completed. -/
def readDone : State := { full with phase := .readDone, csActive := false, hist := full.hist ++ [.op 0x42#32] }

/-- The read failed before any byte. -/
def readFailed : State :=
  { reading with phase := .readFailed, csActive := false, hist := reading.hist ++ [.op 0x41#32] }

/-- A received block ready for the CRC Validator. -/
def validating : State :=
  { readDone with phase := .validate, busyOut := false, hist := readDone.hist ++ [.op 0x33#32] }

/-- A latched bus failure. -/
def failedDeliver : State :=
  { readFailed with
    phase := .deliver, busyOut := false, resKind := .busError, hist := readFailed.hist ++ [.op 0x33#32] }

/-- A latched good block. -/
def okDeliver : State :=
  { validating with phase := .deliver, resKind := .ok, hist := validating.hist ++ [.op 0x34#32] }

/-- A latched mismatch, with an UNBIND waiting (V49). -/
def mismatchDeliver : State :=
  { session with
    phase := .deliver, unbinding := true, resKind := .mismatch, resExpected := 1#32, resReceived := 2#32 }

/-- A property of the next state, false of a fault and of a refusal. -/
def nextHas (o : Outcome) (p : State → Bool) : Bool :=
  match o with
  | .next t => p t
  | .fault _ => false
  | .refused _ => false

/-- The last response is this code and data. -/
def responds (code : RespCode) (data : Word) (t : State) : Bool :=
  t.responses.getLast? == some { code := code, data := data }

/-! ## One step each, from the vectors -/

/-- V1. -/
theorem test_assertBusy : nextHas (exec .assertBusy taken) (fun t => t.busyOut && t.phase == .asserted) = true := by
  decide
/-- V4: not enabled, so nothing happens. -/
theorem test_assertBusy_not_enabled : exec .assertBusy session = .next session := rfl
/-- V2. -/
theorem test_deassertBusy_done :
    nextHas (exec .deassertBusy readDone) (fun t => !t.busyOut && t.phase == .validate && t.resKind == .none)
      = true := by decide
/-- V3. -/
theorem test_deassertBusy_failed :
    nextHas (exec .deassertBusy readFailed) (fun t => !t.busyOut && t.phase == .deliver && t.resKind == .busError)
      = true := by decide
/-- V10. -/
theorem test_readBlock :
    nextHas (exec .readBlock { asserted with busCount := 5#32 })
      (fun t => t.csActive && t.phase == .reading && t.busCount == 0#32) = true := by decide
/-- V11. -/
theorem test_busByte :
    nextHas (exec (.busByte 0xDE#8) reading) (fun t => bufByte t 0 == 0xDE#8 && t.busCount == 1#32) = true := by
  decide
/-- V13: the block is full. -/
theorem test_busByte_full : enabled (.busByte 0#8) full = false := by decide
/-- V15. -/
theorem test_busEnd :
    nextHas (exec .busEnd full) (fun t => t.phase == .readDone && !t.csActive && t.busCount == 8#32) = true := by
  decide
/-- V14: a short transaction. -/
theorem test_busEnd_short : enabled .busEnd { full with busCount := 7#32 } = false := by decide
/-- V16. -/
theorem test_busError :
    nextHas (exec .busError reading) (fun t => t.phase == .readFailed && !t.csActive && t.busCount == 0#32)
      = true := by decide
/-- V17. -/
theorem test_busError_after_last_byte :
    nextHas (exec .busError full) (fun t => t.phase == .readFailed && !t.csActive) = true := by decide
/-- V23. -/
theorem test_crcValidate_ok :
    nextHas (exec .crcValidate validating) (fun t => t.resKind == .ok && t.phase == .deliver) = true := by
  decide +kernel
/-- V24. -/
theorem test_crcValidate_mismatch :
    nextHas (exec .crcValidate { validating with
        buf := listed [0xDE#8, 0xAD#8, 0xBE#8, 0xEF#8, 0x81#8, 0xDA#8, 0x1A#8, 0x18#8] })
      (fun t => t.resKind == .mismatch && t.resExpected == 0x81DA1A18#32 && t.resReceived == 0x181ADA81#32)
      = true := by decide +kernel
/-- Program P1's DELIVER. -/
theorem test_deliver_ok :
    nextHas (exec .deliver okDeliver)
      (fun t => t.out == [.ok [0xDE#8, 0xAD#8, 0xBE#8, 0xEF#8]] && t.phase == .idle && t.bound) = true := by
  decide
/-- V49. -/
theorem test_deliver_unbinding :
    nextHas (exec .deliver mismatchDeliver)
      (fun t => t.out == [.mismatch 1#32 2#32] && t.phase == .idle && !t.bound && !t.unbinding && !t.pending)
      = true := by decide
/-- V40. -/
theorem test_readyHigh : nextHas (exec .readyHigh session) (fun t => t.readyIn && !t.pending) = true := by decide
/-- V42. -/
theorem test_readyLow :
    nextHas (exec .readyLow { session with readyIn := true, readyPrev := true }) (fun t => !t.readyIn && t.readyPrev)
      = true := by decide
/-- V40. -/
theorem test_edgeSample_rising :
    nextHas (exec .edgeSample { session with readyIn := true }) (fun t => t.readyPrev && t.pending) = true := by
  decide
/-- V42. -/
theorem test_edgeSample_falling :
    nextHas (exec .edgeSample { session with readyPrev := true }) (fun t => !t.readyPrev && !t.pending) = true := by
  decide
/-- V46. -/
theorem test_take :
    nextHas (exec .take { session with pending := true }) (fun t => t.phase == .taken && !t.pending && !t.readyAtTake)
      = true := by decide
/-- V50. -/
theorem test_take_not_enabled : enabled .take session = false := by decide
/-- V68. -/
theorem test_bind_ok :
    nextHas (exec .bind { configured with cfgPayloadLen := 0#32, draws := { queue := [true], used := 0 } })
      (fun t => t.bound && responds .ok 0#32 t && t.draws.queue == []) = true := by decide
/-- V66. -/
theorem test_bind_too_long :
    nextHas (exec .bind { configured with cfgPayloadLen := 40961#32, draws := { queue := [true], used := 0 } })
      (fun t => !t.bound && responds .errBind 0#32 t) = true := by decide
/-- V79. -/
theorem test_unbind_idle :
    nextHas (exec .unbind { session with pending := true }) (fun t => !t.bound && !t.pending && responds .ok 0#32 t)
      = true := by decide
/-- V80. -/
theorem test_unbind_pending :
    nextHas (exec .unbind { reading with pending := true })
      (fun t => t.bound && t.unbinding && !t.pending && t.phase == .reading && responds .pending 0#32 t) = true := by
  decide
/-- V63. -/
theorem test_regRead_capacity : nextHas (exec (.regRead 4#32) State.reset) (responds .ok 0x0000A004#32) = true := by
  decide
/-- V67: BLOCK_LEN wraps. -/
theorem test_regRead_blockLen_wraps :
    nextHas (exec (.regRead 3#32) { configured with cfgPayloadLen := 0xFFFFFFFD#32 }) (responds .ok 1#32) = true := by
  decide
/-- V82. -/
theorem test_regWrite_payloadLen :
    nextHas (exec (.regWrite 2#32 16#32) configured) (fun t => t.cfgPayloadLen == 16#32 && responds .ok 0#32 t)
      = true := by decide
/-- V71: the read-only check comes first. -/
theorem test_regWrite_status_bound :
    nextHas (exec (.regWrite 0#32 0#32) session) (responds .errReg 0#32) = true := by decide

/-! ## STATUS (the table after V82) -/

theorem test_status_reading :
    statusWord { reading with readyIn := true, readyAtTake := true } = 0x0000037B#32 := by decide
theorem test_status_deliver :
    statusWord { failedDeliver with readyIn := true, readyAtTake := true, pending := true } = 0x00000737#32 := by
  decide
theorem test_status_unbinding :
    statusWord { failedDeliver with readyIn := true, readyAtTake := true, unbinding := true } = 0x000007B3#32 := by
  decide

/-! ## Fetching -/

/-- V75: a worker word on the control port is answered ERR_CMD. -/
theorem test_port_worker_word :
    nextHas (stepMove .host { session with port := { queue := [0x30#32, 0#32], used := 0 } })
      (fun t => responds .errCmd 0#32 t && t.port.queue == [0#32] && t.phase == .idle) = true := by decide
/-- V77: no DATA word is consumed with an INVALID word. -/
theorem test_port_invalid_consumes_one_word :
    nextHas (stepMove .host { configured with port := { queue := [0x00010004#32, 3#32], used := 0 } })
      (fun t => responds .errCmd 0#32 t && t.port.queue == [3#32]) = true := by decide
/-- An agent's word and a command placed by `withFetchWord` run at the next step. -/
theorem test_fetch_readyHigh : nextHas (step (State.reset.withFetchWord 32 0x11)) (·.readyIn) = true := by decide
theorem test_fetch_regWrite :
    nextHas (step (State.reset.withFetchWord 64 0x0000001000000204)) (fun t => t.cfgPayloadLen == 16#32) = true := by
  decide

/-! ## Assembly (R84, R85) -/

theorem test_asm_regWrite :
    assembleLine "REG_WRITE CFG_PAYLOAD_LEN, 16 # BLOCK_LEN = 20".toList
      = some ⟨[.regWrite 2#32 16#32], none⟩ := by decide +kernel
theorem test_asm_bind : assembleLine "BIND ok".toList = some ⟨[.bind], some true⟩ := by decide +kernel
theorem test_asm_rx :
    assembleLine "RX 0xC8, 34".toList = some ⟨[.busByte 0xC8#8, .busByte 34#8, .busEnd], none⟩ := by decide +kernel
/-- R84: a byte does not hold 256. -/
theorem test_asm_byte_too_large : assembleLine "BUS_BYTE 256".toList = none := by decide +kernel

/-! ## Pins -/

/-- R54: the first bit on the wire is bit 7. -/
theorem test_miso_first_bit_is_bit7 :
    misoByte [true, true, false, true, true, true, true, false] = 0xDE#8 := by decide

/-! ## States that meet the invariants -/

/-- The block of V23 was received and its verdict OK is latched. -/
theorem inv_okDeliver : EngineInv okDeliver := by
  constructor <;> first
    | decide +kernel
    | (intro _; unfold received; decide)
    | nofun

theorem inv_configured : EngineInv configured := by
  constructor <;> first | decide | simp [configured, State.reset, State.powerOn]

theorem inv_session : EngineInv session := by
  constructor <;> first | decide | simp [session, State.reset, State.powerOn]

theorem inv_pending : EngineInv { session with pending := true } := by
  constructor <;> first | decide | simp [session, State.reset, State.powerOn]

theorem inv_taken : EngineInv taken := by
  constructor <;> first | decide | simp [taken, session, State.reset, State.powerOn]

theorem inv_asserted : EngineInv asserted := by
  constructor <;> first | decide | simp [asserted, session, State.reset, State.powerOn]

theorem inv_reading : EngineInv reading := by
  constructor <;> first | decide | simp [reading, session, State.reset, State.powerOn, received]

theorem inv_full : EngineInv full := by
  constructor <;> first | decide | (intro _; unfold received; decide) | nofun

theorem inv_readDone : EngineInv readDone := by
  constructor <;> first | decide | (intro _; unfold received; decide) | nofun

theorem inv_failedDeliver : EngineInv failedDeliver := by
  constructor <;> first | decide | simp [failedDeliver, readFailed, reading, session, State.reset, State.powerOn]

/-! ## Witnesses: for each statement with hypotheses, values that meet them, clause by clause -/

theorem witness_DecodeOfEncodeGivesOperationBack :
    Instr.wellFormed (.regRead 0xFF#32) = true ∧ Instr.wellFormed (.regWrite 0xFF#32 0xFFFFFFFF#32) = true
      ∧ Instr.wellFormed (.busByte 0xFF#8) = true := by decide

theorem witness_EncodeOfDecodeGivesWordsBack :
    decode [0x0000FF04#32, 7#32, 9#32] = .ok (.regWrite 0xFF#32 7#32, [9#32]) := by decide

/-- A covered word of each mask, a word that decodes and one that no row covers. -/
theorem witness_WordDecodesAsTheRowItMatches :
    (∃ row ∈ opcodeMap, row.covers 0x0000FF04#32 = true) ∧ (∃ row ∈ opcodeMap, row.covers 0x00000035#32 = true)
    ∧ decode [0x0000FF40#32, 0#32] = .ok (.busByte 0xFF#8, [0#32])
    ∧ (∀ row ∈ opcodeMap, row.covers 0x05#32 = false)
    ∧ ∃ row ∈ opcodeMap, row.covers 0x0000FF40#32 = true := by decide

theorem witness_AgentMoveRunsTheDecodedStep :
    nextMove { session with moves := { queue := [.agent 0x11#32], used := 0 } } = .agent 0x11#32
    ∧ decode [0x11#32] = .ok (.readyHigh, []) ∧ Instr.readyHigh.agent ≠ .host := by decide

theorem witness_HostMoveRunsTheDecodedCommand :
    nextMove { configured with moves := { queue := [.host], used := 0 } } = .host
    ∧ decode (portWords { configured with port := { queue := [0x104#32, 5#32], used := 0 } })
      = .ok (.regWrite 1#32 5#32, [])
    ∧ (Instr.regWrite 1#32 5#32).agent = .host
    ∧ decode (portWords { configured with port := { queue := [0x2#32, 5#32], used := 0 } }) = .ok (.unbind, [5#32])
    ∧ Instr.unbind.agent = .host := by decide

/-- A word of another class, and an INVALID one. -/
theorem witness_InvalidCommandRespondsErrCmd :
    (nextMove { session with moves := { queue := [.host], used := 0 } } = .host)
    ∧ (∀ i rest, decode (portWords { session with port := { queue := [0x30#32, 0#32], used := 0 } }) = .ok (i, rest) →
      i.agent ≠ .host)
    ∧ ∀ i rest, decode (portWords { session with port := { queue := [0#32, 3#32], used := 0 } }) = .ok (i, rest) →
      i.agent ≠ .host := by
  refine ⟨by decide, fun i rest h => ?_, fun i rest h => ?_⟩
  · have : decode (portWords { session with port := { queue := [0x30#32, 0#32], used := 0 } })
        = .ok (.take, [0#32]) := by decide
    rw [this] at h; cases h; decide
  · have : decode (portWords { session with port := { queue := [0#32, 3#32], used := 0 } })
        = .error (.reservedOpcode 0#8) := by decide
    rw [this] at h; cases h

theorem witness_StepWithFalseGuardDoesNotHappen :
    enabled .take session = false ∧ enabled .deliver session = false ∧ enabled .readyLow session = false := by decide

theorem witness_StepThatHappensIsRecorded :
    enabled (.busByte 0xDE#8) reading = true ∧ ∃ t, exec (.busByte 0xDE#8) reading = .next t := ⟨by decide, _, rfl⟩

theorem witness_ReadyHighRaisesReady : session.readyIn = false := rfl

theorem witness_ReadyLowLowersReady : { session with readyIn := true }.readyIn = true := rfl

/-- A rising and a falling edge. -/
theorem witness_EdgeSampleSignalsARisingEdge :
    (∃ s : State, s.bound = true ∧ s.unbinding = false ∧ s.readyPrev = false ∧ s.readyIn = true)
    ∧ ∃ s : State, s.bound = true ∧ s.unbinding = false ∧ s.readyPrev = true ∧ s.readyIn = false :=
  ⟨⟨{ session with readyIn := true }, rfl, rfl, rfl, rfl⟩, { session with readyPrev := true }, rfl, rfl, rfl, rfl⟩

/-- With the detector low, and with it still high. -/
theorem witness_UnsampledPulseIsNoEdge :
    (session.readyIn = false ∧ session.readyPrev = false)
    ∧ { session with readyPrev := true }.readyIn = false ∧ { session with readyPrev := true }.readyPrev = true
    ∧ ∃ u, exec .edgeSample { session with readyPrev := true } = .next u := ⟨⟨rfl, rfl⟩, rfl, rfl, _, rfl⟩

theorem witness_EdgesCoalesceWhilePending :
    (∀ i ∈ [Instr.readyHigh, .edgeSample, .readyLow, .edgeSample], i.agent = .periph ∨ i.agent = .edge)
    ∧ (∃ t, execAll [.readyHigh, .edgeSample, .readyLow, .edgeSample] { reading with pending := true } = .next t)
    ∧ { reading with pending := true }.pending = true := ⟨by decide, ⟨_, rfl⟩, rfl⟩

/-- Unbound, with a BIND that opens the session; and unbinding. -/
theorem witness_EdgeDetectionIsOffOutsideTheSession :
    (configured.bound = false ∧ configured.pending = false
      ∧ (∃ t, exec .readyHigh configured = .next t)
      ∧ ∃ t, exec .bind { configured with draws := { queue := [true], used := 0 } } = .next t ∧ t.bound = true)
    ∧ { reading with unbinding := true }.unbinding = true := ⟨⟨rfl, rfl, ⟨_, rfl⟩, _, rfl, rfl⟩, rfl⟩

/-- With and without an edge sampled during the attempt. -/
theorem witness_EdgeDuringTransferIsReplayedOnce :
    (failedDeliver.bound = true ∧ failedDeliver.unbinding = false ∧ failedDeliver.phase = .deliver
      ∧ ∃ t, exec .deliver failedDeliver = .next t ∧ t.pending = false)
    ∧ ∃ t, exec .deliver { failedDeliver with pending := true } = .next t ∧ t.pending = true :=
  ⟨⟨rfl, rfl, rfl, _, rfl, rfl⟩, _, rfl, rfl⟩

theorem witness_TakeEntersTheAttempt :
    ∃ s : State, s.bound = true ∧ s.phase = .idle ∧ s.pending = true :=
  ⟨{ session with pending := true }, rfl, rfl, rfl⟩

theorem witness_AssertBusyRaisesBusy : taken.bound = true ∧ taken.phase = .taken := ⟨rfl, rfl⟩

/-- The longest block and the shortest one. -/
theorem witness_ReadBlockStartsTheTransaction :
    asserted.bound = true ∧ asserted.phase = .asserted
    ∧ lengthFits Config.engine { asserted with cfgPayloadLen := 40960#32 }.cfgPayloadLen = true
    ∧ lengthFits Config.engine { asserted with cfgPayloadLen := 0#32 }.cfgPayloadLen = true := by decide

/-- The first byte, the last one, and the last one of the longest block. -/
theorem witness_BusByteStoresOneByte :
    (reading.bound = true ∧ reading.phase = .reading ∧ reading.busCount < blockLen reading
      ∧ lengthFits Config.engine reading.cfgPayloadLen = true)
    ∧ 7#32 < blockLen { reading with busCount := 7#32 }
    ∧ 40963#32 < blockLen { reading with busCount := 40963#32, cfgPayloadLen := 40960#32 }
    ∧ lengthFits Config.engine 40960#32 = true := by decide

theorem witness_BusEndCompletesTheTransaction :
    full.bound = true ∧ full.phase = .reading ∧ full.busCount = blockLen full := by decide

/-- Before the first byte and after the last one. -/
theorem witness_BusErrorFailsTheTransaction :
    reading.bound = true ∧ reading.phase = .reading ∧ full.bound = true ∧ full.phase = .reading := by decide

theorem witness_DeassertBusyLowersBusyOnBothOutcomes :
    readDone.bound = true ∧ readDone.phase = .readDone ∧ readFailed.bound = true ∧ readFailed.phase = .readFailed := by
  decide

/-- Each verdict, and the longest block. -/
theorem witness_CrcValidateLatchesTheVerdict :
    (validating.bound = true ∧ validating.phase = .validate
      ∧ lengthFits Config.engine validating.cfgPayloadLen = true)
    ∧ crc32be Config.engine [0xDE#8, 0xAD#8, 0xBE#8, 0xEF#8] = load32 .le 0x18#8 0x1A#8 0xDA#8 0x81#8
    ∧ crc32be Config.engine [0xDE#8, 0xAD#8, 0xBE#8, 0xEF#8] ≠ load32 .le 0x81#8 0xDA#8 0x1A#8 0x18#8
    ∧ lengthFits Config.engine { validating with cfgPayloadLen := 40960#32 }.cfgPayloadLen = true := by
  decide +kernel

/-- Each latched result, without and with an UNBIND that had to wait. -/
theorem witness_DeliverPushesTheResultAndReturnsToIdle :
    (okDeliver.bound = true ∧ okDeliver.phase = .deliver ∧ okDeliver.resKind = .ok
      ∧ lengthFits Config.engine okDeliver.cfgPayloadLen = true ∧ okDeliver.unbinding = false)
    ∧ (failedDeliver.bound = true ∧ failedDeliver.phase = .deliver ∧ failedDeliver.resKind = .busError
      ∧ failedDeliver.unbinding = false)
    ∧ (mismatchDeliver.bound = true ∧ mismatchDeliver.phase = .deliver ∧ mismatchDeliver.resKind = .mismatch
      ∧ mismatchDeliver.unbinding = true) := by decide

theorem witness_SequencerFollowsTheTable :
    (enabled (.busByte 0xDE#8) reading = true ∧ ∃ t, exec (.busByte 0xDE#8) reading = .next t)
    ∧ configured.bound = false
    ∧ EngineInv reading ∧ ∃ t, exec .readyHigh reading = .next t :=
  ⟨⟨by decide, _, rfl⟩, rfl, inv_reading, _, rfl⟩

theorem witness_WorkerIsDeterministicAndBusHasTheChoice :
    enabled .assertBusy taken = true ∧ Instr.assertBusy.agent = .worker
    ∧ (full.bound = true ∧ full.phase = .reading ∧ full.busCount = blockLen full)
    ∧ { full with busCount := 7#32 }.busCount < blockLen full ∧ reading.busCount < blockLen reading := by decide

theorem witness_TransferringIsNonInterruptible :
    EngineInv reading ∧ reading.phase ≠ .idle ∧ (∃ t, exec .readyHigh reading = .next t)
    ∧ (∃ t, exec .edgeSample reading = .next t) ∧ (∃ t, exec .unbind reading = .next t)
    ∧ (∃ t, exec .bind reading = .next t) ∧ (∃ t, exec (.regRead 5#32) reading = .next t)
    ∧ ∃ t, exec (.regWrite 1#32 5#32) reading = .next t :=
  ⟨inv_reading, by decide, ⟨_, rfl⟩, ⟨_, rfl⟩, ⟨_, rfl⟩, ⟨_, rfl⟩, ⟨_, rfl⟩, _, rfl⟩

/-- Two attempts that differ in READY, the notification and the clock rate; one of them delivers. -/
theorem witness_AttemptDependsOnNothingOutsideIt :
    sameAttempt okDeliver { okDeliver with readyIn := true, pending := true, cfgClkHz := 1#32 }
    ∧ Instr.deliver.agent = .worker
    ∧ ∃ t, exec .deliver okDeliver = .next t ∧ t.out = okDeliver.out ++ [.ok [0xDE#8, 0xAD#8, 0xBE#8, 0xEF#8]] :=
  ⟨⟨rfl, rfl, rfl, rfl, rfl, rfl, rfl, rfl, rfl, rfl, rfl, rfl⟩, rfl, _, rfl, rfl⟩

theorem witness_EveryAttemptStepShortensTheAttempt :
    (EngineInv reading ∧ enabled (.busByte 0xDE#8) reading = true ∧ ∃ t, exec (.busByte 0xDE#8) reading = .next t)
    ∧ (enabled .take { session with pending := true } = true
      ∧ ∃ t, exec .take { session with pending := true } = .next t)
    ∧ ∃ t, exec .readyHigh reading = .next t :=
  ⟨⟨inv_reading, by decide, _, rfl⟩, ⟨by decide, _, rfl⟩, _, rfl⟩

theorem witness_AttemptIsNeverStuck :
    EngineInv taken ∧ taken.phase ≠ .idle ∧ EngineInv full ∧ full.phase ≠ .idle :=
  ⟨inv_taken, by decide, inv_full, by decide⟩

/-- The engine after a failed attempt has been delivered. -/
def afterFailure : State :=
  { session with
    out := [.busError], hist := failedDeliver.hist ++ [.deliver 0x35#32 .busError] }

theorem afterFailure_no_agent (a : Agent) (h : a = .worker ∨ a = .bus) : ¬ agentEnabled a afterFailure := by
  rintro ⟨i, hi, he⟩
  cases i <;> rcases h with rfl | rfl <;> first
    | (cases hi; done)
    | simp [afterFailure, session, State.reset, State.powerOn] at he

theorem reading_no_worker : ¬ agentEnabled .worker reading := by
  rintro ⟨i, hi, he⟩
  cases i <;> first
    | (cases hi; done)
    | simp [reading, session, State.reset, State.powerOn] at he

/-- The run DELIVER and then nothing: fair, because no worker or bus step is enabled any more. -/
theorem witness_FairRunDeliversEveryAttempt :
    ∃ (sched : Nat → Move) (run : Nat → State), isRun sched run ∧ EngineInv (run 0)
      ∧ (∀ m ready, 0 ≤ m → sched m ≠ .hardwareReset ready)
      ∧ weaklyFair .worker sched run ∧ weaklyFair .bus sched run ∧ (run 0).phase ≠ .idle := by
  refine ⟨fun n => if n = 0 then .agent 0x35#32 else .agent 0#32,
    fun n => if n = 0 then failedDeliver else afterFailure, ?_, inv_failedDeliver, ?_, ?_, ?_, by decide⟩
  · rintro (_ | n)
    · rfl
    · rfl
  · intro m ready _
    dsimp only
    split <;> nofun
  · intro n h
    exact absurd (h (n + 1) (by omega)) (afterFailure_no_agent .worker (.inl rfl))
  · intro n h
    exact absurd (h (n + 1) (by omega)) (afterFailure_no_agent .bus (.inr rfl))

/-- The second clause: TAKE, ASSERT_BUSY, READ_BLOCK and then nothing, fair to WORKER, which the bus blocks. -/
theorem witness_FairRunDeliversEveryAttempt_take :
    ∃ (sched : Nat → Move) (run : Nat → State), isRun sched run ∧ EngineInv (run 0)
      ∧ (∀ m ready, 0 ≤ m → sched m ≠ .hardwareReset ready)
      ∧ (∀ m, 0 ≤ m → sched m = .host → portCommand (run m) ≠ some .unbind)
      ∧ weaklyFair .worker sched run ∧ (run 0).phase = .idle ∧ (run 0).pending = true := by
  refine ⟨fun
      | 0 => .agent 0x30#32
      | 1 => .agent 0x31#32
      | 2 => .agent 0x32#32
      | _ + 3 => .agent 0#32,
    fun
      | 0 => { session with pending := true }
      | 1 => taken
      | 2 => asserted
      | _ + 3 => reading, ?_, inv_pending, ?_, ?_, ?_, rfl, rfl⟩
  · rintro (_ | _ | _ | n) <;> rfl
  · rintro (_ | _ | _ | m) ready _ <;> nofun
  · rintro (_ | _ | _ | m) _ h <;> cases h
  · intro n h
    exact absurd (h (n + 3) (by omega)) reading_no_worker

/-- The block of V23, the shortest block and the longest one. -/
theorem witness_AttemptDeliversTheBlocksVerdict :
    (∃ s : State, s.bound = true ∧ s.unbinding = false ∧ s.phase = .idle ∧ s.pending = true
      ∧ lengthFits Config.engine s.cfgPayloadLen = true ∧ block.length = payloadLen s + 4)
    ∧ (lengthFits Config.engine 0#32 = true
      ∧ [0xFF#8, 0xFF#8, 0xFF#8, 0xFF#8].length = payloadLen { session with cfgPayloadLen := 0#32 } + 4)
    ∧ lengthFits Config.engine 40960#32 = true
      ∧ (List.replicate 40964 0#8).length = payloadLen { session with cfgPayloadLen := 40960#32 } + 4 := by
  refine ⟨⟨{ session with pending := true }, rfl, rfl, rfl, rfl, by decide, rfl⟩, ⟨by decide, rfl⟩, by decide, ?_⟩
  rw [List.length_replicate]; rfl

/-- A failure before the first byte and one after the last. -/
theorem witness_FailedAttemptDeliversBusError :
    ∃ s : State, s.bound = true ∧ s.unbinding = false ∧ s.phase = .idle ∧ s.pending = true
      ∧ lengthFits Config.engine s.cfgPayloadLen = true ∧ ([] : List Byte).length ≤ payloadLen s + 4
      ∧ block.length ≤ payloadLen s + 4 :=
  ⟨{ session with pending := true }, rfl, rfl, rfl, rfl, by decide, by decide, by decide⟩

theorem witness_ValidatorNeverPassesSilently :
    enabled .crcValidate validating = true
    ∧ enabled .crcValidate { validating with readyIn := true, cfgClkHz := 2#32 } = true
    ∧ lengthFits Config.engine validating.cfgPayloadLen = true
    ∧ ∀ a, a < payloadLen validating + 4 →
      bufByte validating a = bufByte { validating with readyIn := true, cfgClkHz := 2#32 } a :=
  ⟨by decide, by decide, by decide, fun _ _ => rfl⟩

theorem witness_CrcLawsAndCheckValue : Config.engine.crcXorout = 0#32 := rfl

/-- The fields of the shortest block and of the longest one. -/
theorem witness_LoadOfTheFieldPlacesEachByte :
    0 + 4 ≤ Config.engine.bufCapacity ∧ 40960 + 4 ≤ Config.engine.bufCapacity := by decide

/-- V69, then V64, V66 and V65, then the longest payload a BIND accepts. -/
theorem witness_BindOpensTheSessionOrRefuses :
    session.bound = true
    ∧ (State.reset.bound = false ∧ State.reset.cfgClkHz = 0#32)
    ∧ (configured.bound = false ∧ { configured with cfgPayloadLen := 40961#32 }.cfgPayloadLen.toNat > 40964 - 4
      ∧ resourcesOk { configured with draws := { queue := [false], used := 0 } } = false)
    ∧ (configured.cfgClkHz ≠ 0#32 ∧ { configured with cfgPayloadLen := 40960#32 }.cfgPayloadLen.toNat ≤ 40964 - 4
      ∧ resourcesOk { configured with draws := { queue := [true], used := 0 } } = true) := by decide

/-- V78 and V81, then V79, then V80. -/
theorem witness_UnbindEndsOrDefersTheSession :
    configured.bound = false ∧ { reading with unbinding := true }.unbinding = true
    ∧ (session.bound = true ∧ session.unbinding = false ∧ session.phase = .idle)
    ∧ (reading.bound = true ∧ reading.unbinding = false ∧ reading.phase ≠ .idle)
    ∧ (∃ t, exec .unbind session = .next t) ∧ ∃ t, exec .unbind reading = .next t :=
  ⟨rfl, rfl, ⟨rfl, rfl, rfl⟩, ⟨rfl, rfl, by decide⟩, ⟨_, rfl⟩, _, rfl⟩

/-- The first reserved number. -/
theorem witness_RegReadAnswersTheRegister : 0x05 < (0x06#32 : Word).toNat ∧ ¬ 0x05 < (0x05#32 : Word).toNat := by
  decide

/-- A configuration register unbound and bound, a read-only one and a reserved number. -/
theorem witness_RegWriteConfiguresTheUnboundEngine :
    configured.bound = false ∧ session.bound = true
    ∧ (0x00#32 : Word) ≠ 0x01#32 ∧ (0x00#32 : Word) ≠ 0x02#32 ∧ (0x03#32 : Word) ≠ 0x02#32
    ∧ (0xFF#32 : Word) ≠ 0x01#32 ∧ ∃ t, exec (.regWrite 1#32 5#32) configured = .next t :=
  ⟨rfl, rfl, by decide, by decide, by decide, by decide, _, rfl⟩

/-- V61, V72 and V78: a read that answers OK, one that does not, another command. -/
theorem witness_EveryCommandGetsOneResponse :
    (Instr.regRead 2#32).agent = .host
    ∧ (∃ t, exec (.regRead 2#32) State.reset = .next t ∧ t.responses = [{ code := .ok, data := 0x0000A000#32 }])
    ∧ (∃ t, exec (.regRead 6#32) State.reset = .next t ∧ t.responses = [{ code := .errReg, data := 0#32 }])
    ∧ ∃ t, exec .unbind State.reset = .next t ∧ t.responses = [{ code := .errState, data := 0#32 }] :=
  ⟨rfl, ⟨_, rfl, rfl⟩, ⟨_, rfl, rfl⟩, _, rfl, rfl⟩

/-- Unbound, and a BIND that succeeds. -/
theorem witness_NoTransferWithoutASession :
    configured.bound = false ∧ Instr.edgeSample.agent = .edge
    ∧ EngineInv { configured with draws := { queue := [true], used := 0 } }
    ∧ ∃ t, exec .bind { configured with draws := { queue := [true], used := 0 } } = .next t ∧ t.bound = true :=
  ⟨rfl, rfl, engineInv_inputs inv_configured .none .none _, _, rfl, rfl⟩

/-- V69 (ERR_STATE) and V65 (ERR_BIND). -/
theorem witness_FailedBindLeavesNoTrace :
    (∃ t, exec .bind session = .next t ∧ t.responses = session.responses ++ [{ code := .errState, data := 0#32 }])
    ∧ ∃ t, exec .bind { configured with draws := { queue := [false], used := 0 } } = .next t
      ∧ t.responses = [{ code := .errBind, data := 0#32 }] := ⟨⟨_, rfl, rfl⟩, _, rfl, rfl⟩

theorem witness_ConfigurationIsConstantWhileBound :
    session.bound = true ∧ (∃ t, exec (.regWrite 1#32 5#32) session = .next t)
    ∧ ∃ t, exec .unbind session = .next t := ⟨rfl, ⟨_, rfl⟩, _, rfl⟩

theorem witness_HardwareResetLeavesTheResetState :
    nextMove { reading with moves := { queue := [.hardwareReset true], used := 0 } } = .hardwareReset true := rfl

/-- A state between reset and an attempt, with READY_HIGH as the next move; and the same with the whole block read and
BUS_END next. -/
theorem witness_EveryStepKeepsTheInvariants :
    (EngineInv { session with moves := { queue := [.agent 0x11#32], used := 0 } }
      ∧ ∃ t, step { session with moves := { queue := [.agent 0x11#32], used := 0 } } = .next t)
    ∧ EngineInv { full with moves := { queue := [.agent 0x42#32], used := 0 } }
      ∧ ∃ t, step { full with moves := { queue := [.agent 0x42#32], used := 0 } } = .next t :=
  ⟨⟨engineInv_inputs inv_session _ .none .none, _, rfl⟩, engineInv_inputs inv_full _ .none .none, _, rfl⟩

theorem witness_EveryStepHasADefinedOutcome : EngineInv okDeliver := inv_okDeliver

/-- Parameters other than the defaults: eight bytes of buffer and a short payload at reset. -/
def smallEngine : Params := { Config.engine with bufCapacity := 8, resetPayloadLen := 4#32 }

/-- The hypotheses over other parameters, for `EveryStepKeepsTheInvariants` and `EveryStepHasADefinedOutcome`. -/
theorem witness_OtherParametersMeetTheInvariants :
    smallEngine.wellFormed = true
    ∧ EngineInvWith smallEngine { reading with moves := { queue := [.agent 0xDE40#32], used := 0 } }
    ∧ ∃ t, stepWith smallEngine { reading with moves := { queue := [.agent 0xDE40#32], used := 0 } } = .next t := by
  refine ⟨by decide, ?_, _, rfl⟩
  constructor <;> first | decide | simp [reading, session, State.reset, State.powerOn, received]

/-- A small buffer: the longest payload it takes and the first it does not, its last byte and the first beyond. -/
theorem witness_MachineTakesItsParameters :
    nextMove { reading with moves := { queue := [.hardwareReset true], used := 0 } } = .hardwareReset true
    ∧ (∃ t, stepWith smallEngine { reading with moves := { queue := [.hardwareReset true], used := 0 } } = .next t
      ∧ t.cfgPayloadLen = 4#32)
    ∧ (configured.bound = false ∧ configured.cfgClkHz ≠ 0#32
      ∧ resourcesOk { configured with draws := { queue := [true], used := 0 } } = true
      ∧ 4 + 4 ≤ smallEngine.bufCapacity ∧ ¬ 5 + 4 ≤ smallEngine.bufCapacity)
    ∧ (enabled (.busByte 0#8) { reading with busCount := 7#32 } = true ∧ 7 < smallEngine.bufCapacity)
    ∧ (enabled (.busByte 0#8) { reading with busCount := 8#32, cfgPayloadLen := 5#32 } = true
      ∧ smallEngine.bufCapacity ≤ 8) :=
  ⟨rfl, ⟨_, rfl, rfl⟩, by decide, by decide, by decide⟩

/-- Each of the two operations. -/
theorem witness_OnlyTheHandshakeDrivesBusy :
    (EngineInv taken ∧ ∃ t, exec .assertBusy taken = .next t ∧ t.busyOut ≠ taken.busyOut)
    ∧ EngineInv readDone ∧ ∃ t, exec .deassertBusy readDone = .next t ∧ t.busyOut ≠ readDone.busyOut :=
  ⟨⟨inv_taken, _, rfl, by decide⟩, inv_readDone, _, rfl, by decide⟩

/-- A byte overwritten by BUS_BYTE, and one that a session's end makes unknown. -/
theorem witness_BufferIsWrittenOnlyByBusByteWhileBusy :
    (∃ t, exec (.busByte 0xDE#8) { reading with buf := [(0, 0#8)] } = .next t
      ∧ bufByte t 0 ≠ bufByte { reading with buf := [(0, 0#8)] } 0)
    ∧ ∃ b t, exec .unbind { session with buf := [(0, b)] } = .next t
      ∧ bufByte t 0 ≠ bufByte { session with buf := [(0, b)] } 0 := by
  refine ⟨⟨_, rfl, by decide⟩, Config.freeBufByte 1 0 + 1#8, _, rfl, ?_⟩
  change Config.freeBufByte 1 0 ≠ Config.freeBufByte 1 0 + 1#8
  bv_omega

/-- With chip-select asserted, and without a session. -/
theorem witness_BusyBracketContainsChipSelect :
    (EngineInv reading ∧ csNPin reading = false) ∧ EngineInv configured ∧ configured.bound = false :=
  ⟨⟨inv_reading, rfl⟩, inv_configured, rfl⟩

theorem witness_BufferKeepsItsCanonicalForm :
    Memory.wf Config.engine reading.buf = true ∧ ∃ t, exec (.busByte 0xDE#8) reading = .next t := ⟨by decide, _, rfl⟩

/-- One state for each stop, at the first value that stops. -/
theorem witness_StopsNoRunReachesFaultByName :
    (enabled (.busByte 0#8) { reading with busCount := 40964#32, cfgPayloadLen := 40961#32 } = true
      ∧ 40964 ≤ { reading with busCount := 40964#32, cfgPayloadLen := 40961#32 }.busCount.toNat)
    ∧ (enabled .crcValidate { validating with cfgPayloadLen := 40961#32 } = true
      ∧ 40964 < { validating with cfgPayloadLen := 40961#32 }.cfgPayloadLen.toNat + 4)
    ∧ (enabled .deliver { okDeliver with cfgPayloadLen := 40965#32 } = true ∧ okDeliver.resKind = .ok
      ∧ 40964 < { okDeliver with cfgPayloadLen := 40965#32 }.cfgPayloadLen.toNat)
    ∧ (enabled .deliver { okDeliver with resKind := .none } = true
      ∧ { okDeliver with resKind := .none }.resKind = .none) := by decide


end Sys2Proof.Tests
end

namespace Sys2Proof.Machine

/-! SUPPORT. How the machine over the parameters behaves: it is this engine at the defaults, and the outcome of each
meaning that takes a parameter or stops by name. -/

/-! ## This engine is the machine at the defaults -/

theorem exec_eq_execWith (i : Instr) (s : State) : exec i s = execWith Config.engine i s := by
  cases i <;> rfl

theorem stepMove_eq_stepMoveWith (m : Move) (s : State) : stepMove m s = stepMoveWith Config.engine m s := by
  have hexec : exec = execWith Config.engine := funext₂ exec_eq_execWith
  rw [stepMove, stepMoveWith, hexec]

theorem step_eq_stepWith (s : State) : step s = stepWith Config.engine s :=
  stepMove_eq_stepMoveWith (nextMove s) (dropMove s)

/-! ## One move -/

/-- A word that decodes to an operation of another class than HOST's names a step of an agent (R70). -/
theorem agentStep_of_decode {w : Word} {i : Instr} {rest : List Word} (hd : decode [w] = .ok (i, rest))
    (ha : i.agent ≠ .host) : agentStep w = some i := by
  simp [agentStep, hd, ha]

theorem stepMove_agent {w : Word} {i : Instr} (h : agentStep w = some i) (s : State) :
    stepMove (.agent w) s = exec i s := by
  simp only [stepMove, makeMove, h]

/-- A step whose move is hardware reset always happens (R230). -/
theorem stepWith_hardwareReset {s : State} {ready : Bool} (p : Params) (h : nextMove s = .hardwareReset ready) :
    stepWith p s = .next (hardwareReset p ready (dropMove s)) := by
  rw [stepWith, h]
  rfl

/-! ## The meanings that take a parameter -/

/-- A read of an assigned register answers OK with its value (R183). -/
theorem execRegReadWith_assigned {r : Word} {reg : ControlReg} (h : regOfNumber r = some reg) (p : Params) (s : State) :
    execRegReadWith p r s = .next (reply (.regRead (opWord (.regRead r))) .ok (readControlReg p s reg) s) := by
  simp only [execRegReadWith, h]

/-- BIND answers a next state whatever it finds (R181). -/
theorem execBindWith_completes (p : Params) (s : State) : ∃ t, execBindWith p s = .next t := by
  unfold execBindWith
  split
  · exact ⟨_, rfl⟩
  · split <;> exact ⟨_, rfl⟩

/-- With a clock and resources, BIND of an unbound engine turns on the payload length alone (R181). -/
theorem execBindWith_bound_iff {p : Params} {s t : State} (hb : s.bound = false) (hc : s.cfgClkHz ≠ 0#32)
    (hr : resourcesOk s = true) (h : execBindWith p s = .next t) :
    t.bound = true ↔ lengthFits p s.cfgPayloadLen = true := by
  have hrefuse : bindRefused p (resourcesOk s) s = true ↔ lengthFits p s.cfgPayloadLen = false := by
    simp [bindRefused_iff, hc, hr]
  rcases execBindWith_next h with ⟨hbound, -⟩ | ⟨-, hrefused, rfl⟩ | ⟨-, haccepted, rfl⟩
  · simp [hb] at hbound
  · simp [hb, hrefuse.1 hrefused]
  · have hfits : lengthFits p s.cfgPayloadLen = true := by simpa [haccepted] using hrefuse
    simp [hfits]

/-- The state after a BUS_BYTE that happens inside the buffer (R111). -/
theorem execBusByteWith_inside {p : Params} {b : Byte} {s : State} (hg : enabled (.busByte b) s = true)
    (h : s.busCount.toNat < p.bufCapacity) :
    execBusByteWith p b s = .next (record (.busByte (opWord (.busByte b)) b)
      { s with buf := Memory.store s.busCount.toNat b s.buf, busCount := s.busCount + 1#32 }) := by
  rw [execBusByteWith, guarded_true hg, memWrite_eq h]

/-- A BUS_BYTE beyond the buffer stops by name (log entry 8). -/
theorem execBusByteWith_outside {p : Params} {b : Byte} {s : State} (hg : enabled (.busByte b) s = true)
    (h : p.bufCapacity ≤ s.busCount.toNat) : execBusByteWith p b s = .fault .bufferRange := by
  rw [execBusByteWith, guarded_true hg, memWrite_none h]

/-- The byte just listed at an address is the one read there (R13). -/
theorem bufByte_of_buf_store {s : State} {a : Nat} {b : Byte} {m : Memory} (h : s.buf = Memory.store a b m) :
    bufByte s a = b := by
  simp [bufByte, h]

/-! ## A step whose guard is false -/

/-- HOST's commands have no guard to be false; every other meaning is guarded by its own operation (R14). -/
theorem execWith_of_disabled {i : Instr} {s : State} (p : Params) (h : enabled i s = false) :
    execWith p i s = .next s := by
  cases i with
  | bind | unbind | regRead | regWrite => cases h
  | readyLow | readyHigh | edgeSample | take | assertBusy | readBlock | deassertBusy | crcValidate | deliver
  | busByte | busError | busEnd => exact guarded_false h _

/-! ## A step that happens -/

/-- A guarded step whose guard holds has the outcome of its effect. -/
theorem guarded_next_of_enabled {i : Instr} {s t : State} {e : Outcome} (hg : enabled i s = true)
    (h : guarded i s e = .next t) : e = .next t := by
  rwa [guarded_true hg] at h

/-- From `s` to `t` the history has gained one entry, with the operation's word (R15, R72). -/
def RecordsStep (i : Instr) (s t : State) : Prop :=
  ∃ e, t.hist = s.hist ++ [e] ∧ eventWord e = some (opWord i)

theorem recordsStep_record {i : Instr} {s u : State} {e : Event} (he : eventWord e = some (opWord i))
    (hu : u.hist = s.hist) : RecordsStep i s (record e u) :=
  ⟨e, by rw [record_hist, hu], he⟩

/-- An operation of PERIPH, EDGE, WORKER or BUS whose effect is one recorded update. -/
theorem recordsStep_guarded {i : Instr} {s t u : State} {e : Event} (hg : enabled i s = true)
    (h : guarded i s (.next (record e u)) = .next t) (he : eventWord e = some (opWord i))
    (hu : u.hist = s.hist) : RecordsStep i s t := by
  cases guarded_next_of_enabled hg h
  exact recordsStep_record he hu

theorem recordsStep_bind {p : Params} {s t : State} (h : execBindWith p s = .next t) : RecordsStep .bind s t := by
  rcases execBindWith_next h with ⟨-, rfl⟩ | ⟨-, -, rfl⟩ | ⟨-, -, rfl⟩ <;> exact recordsStep_record rfl rfl

theorem recordsStep_unbind {s t : State} (h : execUnbind s = .next t) : RecordsStep .unbind s t := by
  rcases execUnbind_next h with ⟨-, rfl⟩ | ⟨-, rfl⟩ | ⟨-, rfl⟩ <;> exact recordsStep_record rfl rfl

theorem recordsStep_regRead {p : Params} {r : Word} {s t : State} (h : execRegReadWith p r s = .next t) :
    RecordsStep (.regRead r) s t := by
  rcases execRegReadWith_next h with ⟨reg, -, rfl⟩ | ⟨-, rfl⟩ <;> exact recordsStep_record rfl rfl

/-- A register write changes at most a configuration register, so the history it leaves is the one before (R184). -/
theorem writeControlReg_hist (r v : Word) (s : State) : (writeControlReg r v s).2.hist = s.hist := by
  rcases writeControlReg_cases r v s with ⟨-, -, h⟩ | ⟨-, -, h⟩ | ⟨-, -, h⟩ | ⟨-, -, h⟩ <;> rw [h]

theorem recordsStep_regWrite {r v : Word} {s t : State} (h : execRegWrite r v s = .next t) :
    RecordsStep (.regWrite r v) s t := by
  cases execRegWrite_next h
  exact recordsStep_record rfl (writeControlReg_hist r v s)

/-- Both outcomes of the read are recorded alike (R102). -/
theorem recordsStep_deassertBusy {s t : State} (hg : enabled .deassertBusy s = true)
    (h : execDeassertBusy s = .next t) : RecordsStep .deassertBusy s t := by
  have heffect := guarded_next_of_enabled hg h
  split at heffect <;> cases heffect <;> exact recordsStep_record rfl rfl

theorem recordsStep_crcValidate {p : Params} {s t : State} (hg : enabled .crcValidate s = true)
    (h : execCrcValidateWith p s = .next t) : RecordsStep .crcValidate s t := by
  have heffect : validateBlock p s = .next t := guarded_next_of_enabled hg h
  unfold validateBlock at heffect
  split at heffect
  · cases heffect
    exact recordsStep_record rfl (latchVerdict_hist ..)
  · cases heffect

theorem recordsStep_deliver {p : Params} {s t : State} (hg : enabled .deliver s = true)
    (h : execDeliverWith p s = .next t) : RecordsStep .deliver s t := by
  have heffect := guarded_next_of_enabled hg h
  split at heffect
  · cases heffect
    exact recordsStep_record rfl (leaveAttempt_hist ..)
  · cases heffect

theorem recordsStep_busByte {p : Params} {b : Byte} {s t : State} (hg : enabled (.busByte b) s = true)
    (h : execBusByteWith p b s = .next t) : RecordsStep (.busByte b) s t := by
  by_cases hc : s.busCount.toNat < p.bufCapacity
  · rw [execBusByteWith_inside hg hc] at h
    cases h
    exact recordsStep_record rfl rfl
  · rw [execBusByteWith_outside hg (by omega)] at h
    cases h

/-- Whatever the parameters, an operation that happens is recorded once (R15, R72). -/
theorem execWith_recordsStep {p : Params} {i : Instr} {s t : State} (hg : enabled i s = true)
    (h : execWith p i s = .next t) : RecordsStep i s t := by
  cases i with
  | bind => exact recordsStep_bind h
  | unbind => exact recordsStep_unbind h
  | regRead r => exact recordsStep_regRead h
  | regWrite r v => exact recordsStep_regWrite h
  | readyLow | readyHigh | edgeSample | take | assertBusy | readBlock | busError | busEnd =>
    exact recordsStep_guarded hg h rfl rfl
  | deassertBusy => exact recordsStep_deassertBusy hg h
  | crcValidate => exact recordsStep_crcValidate hg h
  | deliver => exact recordsStep_deliver hg h
  | busByte b => exact recordsStep_busByte hg h

/-! ## What the parameters do -/

/-- RESET_PAYLOAD_LEN is the payload length after hardware reset (R230). -/
theorem stepWith_hardwareReset_fields {p : Params} {ready : Bool} {s t : State}
    (hm : nextMove s = .hardwareReset ready) (h : stepWith p s = .next t) :
    t.cfgPayloadLen = p.resetPayloadLen ∧ t.readyIn = ready ∧ t.bound = false := by
  rw [stepWith_hardwareReset p hm] at h
  cases h
  exact ⟨rfl, rfl, rfl⟩

/-- Register 0x04 reads BUF_CAPACITY (R36, R183). -/
theorem execWith_regRead_bufCapacity (p : Params) (s : State) :
    execWith p (.regRead 0x04#32) s = .next { s with
      responses := s.responses ++ [{ code := .ok, data := BitVec.ofNat 32 p.bufCapacity }]
      hist := s.hist ++ [.regRead 0x00000403#32 { code := .ok, data := BitVec.ofNat 32 p.bufCapacity }] } := by
  have hword : opWord (.regRead 0x04#32) = 0x00000403#32 := by decide
  have hread := execRegReadWith_assigned (regOfNumber_regNumber .bufCapacity) p s
  rw [regNumber, hword] at hread
  exact hread

/-- A BIND that has a clock and resources opens a session exactly when the block fits BUF_CAPACITY (R181). -/
theorem execWith_bind_keeps_to_bufCapacity {p : Params} {s : State} (hb : s.bound = false)
    (hc : s.cfgClkHz ≠ 0#32) (hr : resourcesOk s = true) :
    ∃ t, execWith p .bind s = .next t ∧ (t.bound = true ↔ s.cfgPayloadLen.toNat + 4 ≤ p.bufCapacity) := by
  obtain ⟨t, ht⟩ := execBindWith_completes p s
  exact ⟨t, ht, (execBindWith_bound_iff hb hc hr ht).trans decide_eq_true_iff⟩

/-- A byte inside BUF_CAPACITY lands at `bus_count` and one beyond stops the model (R111, log entry 8). -/
theorem execWith_busByte_keeps_to_bufCapacity {p : Params} {b : Byte} {s : State}
    (hg : enabled (.busByte b) s = true) :
    (s.busCount.toNat < p.bufCapacity →
      ∃ t, execWith p (.busByte b) s = .next t ∧ bufByte t s.busCount.toNat = b)
    ∧ (p.bufCapacity ≤ s.busCount.toNat → execWith p (.busByte b) s = .fault .bufferRange) :=
  ⟨fun hin => ⟨_, execBusByteWith_inside hg hin, bufByte_of_buf_store rfl⟩, execBusByteWith_outside hg⟩

/-! ## The statements of 00_scope.md -/

/-- Settles O10: the lemma over the parameters, at the defaults. -/
theorem stepThatHappensIsRecorded : Obligations.StepThatHappensIsRecorded := by
  intro i s t hg h
  rw [exec_eq_execWith] at h
  exact execWith_recordsStep hg h

/-- Settles O6: the decoded operation is the step the agent's word names. -/
theorem agentMoveRunsTheDecodedStep : Obligations.AgentMoveRunsTheDecodedStep := by
  intro s w i hm hd ha
  rw [step, hm]
  exact stepMove_agent (agentStep_of_decode hd ha) (dropMove s)

/-- Settles O9: every guarded meaning leaves the state as it is when its guard is false. -/
theorem stepWithFalseGuardDoesNotHappen : Obligations.StepWithFalseGuardDoesNotHappen := by
  intro i s h
  rw [exec_eq_execWith]
  exact execWith_of_disabled Config.engine h

/-- Settles O59: the defaults give this engine, and each parameter has the effect named. -/
theorem machineTakesItsParameters : Obligations.MachineTakesItsParameters :=
  ⟨exec_eq_execWith, step_eq_stepWith, rfl, ⟨rfl, rfl, rfl, rfl, rfl, rfl, rfl, rfl⟩, fun p =>
    ⟨powerOn_cfgPayloadLen p, fun _ _ _ => stepWith_hardwareReset_fields, execWith_regRead_bufCapacity p,
      fun _ => execWith_bind_keeps_to_bufCapacity, fun _ _ => execWith_busByte_keeps_to_bufCapacity,
      rfl, fun _ => rfl⟩⟩

end Sys2Proof.Machine

namespace Sys2Proof.Machine

/-! SUPPORT. The invariants in two parts, and what each kind of step does to a part. -/

/-! ## The part that speaks of the observation -/

/-- The invariants of the history, the results and the responses, where `busy` says that BUSY is high and `attempt` that
an attempt is in flight. -/
structure ObservationInv (p : Params) (busy attempt : Bool) (hist : List Event) (out : List TransferResult)
    (responses : List Response) : Prop where
  balance : busyBalance hist = if busy then 1 else 0
  busyPairs : busyBracket hist = some busy
  attemptPairs : attemptBracket hist = some attempt
  history : ∀ e ∈ hist, eventWellFormed e = true
  results : delivered hist = out
  sound : ∀ r ∈ out, resultSound p r
  answered : responses.filter (fun r => r.code ≠ .errCmd) = answers hist

/-- What an event does to the bracket of ASSERT_BUSY and DEASSERT_BUSY (R103). -/
def busyStep (busy : Bool) (e : Event) : Option Bool :=
  bracketStep (fun e => e = .op (opWord .assertBusy)) (fun e => e = .op (opWord .deassertBusy)) (some busy) e

/-- What an event does to the bracket of TAKE and DELIVER (R161, R212). -/
def attemptStep (attempt : Bool) (e : Event) : Option Bool :=
  bracketStep (fun e => e = .op (opWord .take)) isDeliver (some attempt) e

theorem busyBracket_step {hist : List Event} {busy : Bool} (h : busyBracket hist = some busy) (e : Event) :
    busyBracket (hist ++ [e]) = busyStep busy e := by
  rw [busyBracket_append, h, busyStep]

theorem attemptBracket_step {hist : List Event} {attempt : Bool} (h : attemptBracket hist = some attempt)
    (e : Event) : attemptBracket (hist ++ [e]) = attemptStep attempt e := by
  rw [attemptBracket_append, h, attemptStep]

/-- The balance follows the bracket: it is 1 while the bracket is open and 0 while it is closed (I7). -/
theorem busyBalance_step {hist : List Event} {busy busy' : Bool} {e : Event}
    (h : busyBalance hist = if busy then 1 else 0) (hs : busyStep busy e = some busy') :
    busyBalance (hist ++ [e]) = if busy' then 1 else 0 := by
  rw [busyBalance_append]
  cases e with
  | reset => cases hs; rfl
  | op w =>
    by_cases hassert : w = opWord .assertBusy
    · cases busy <;> simp_all [busyStep, bracketStep]
    · by_cases hdeassert : w = opWord .deassertBusy
      · cases busy <;> simp_all [busyStep, bracketStep]
      · simp_all [busyStep, bracketStep]
  | busByte | deliver | bind | unbind | regRead | regWrite => cases hs; exact h

namespace ObservationInv

variable {p : Params} {busy attempt busy' attempt' : Bool} {hist : List Event} {out : List TransferResult}
  {responses : List Response} {e : Event}

theorem nil (p : Params) : ObservationInv p false false [] [] [] where
  balance := rfl
  busyPairs := rfl
  attemptPairs := rfl
  history := nofun
  results := rfl
  sound := nofun
  answered := rfl

/-- One more event, with the result it carries pushed and the response it carries given. -/
theorem append (h : ObservationInv p busy attempt hist out responses) (he : eventWellFormed e = true)
    (hb : busyStep busy e = some busy') (ha : attemptStep attempt e = some attempt')
    (hd : ∀ r ∈ delivered [e], resultSound p r) (hr : ∀ r ∈ answers [e], r.code ≠ .errCmd) :
    ObservationInv p busy' attempt' (hist ++ [e]) (out ++ delivered [e]) (responses ++ answers [e]) where
  balance := busyBalance_step h.balance hb
  busyPairs := (busyBracket_step h.busyPairs e).trans hb
  attemptPairs := (attemptBracket_step h.attemptPairs e).trans ha
  history := List.forall_mem_append.2 ⟨h.history, List.forall_mem_singleton.2 he⟩
  results := by rw [← h.results]; exact List.filterMap_append
  sound := List.forall_mem_append.2 ⟨h.sound, hd⟩
  answered := by
    have hkept : (answers [e]).filter (fun r => r.code ≠ .errCmd) = answers [e] :=
      List.filter_eq_self.2 fun r hm => decide_eq_true (hr r hm)
    rw [List.filter_append, h.answered, hkept]
    exact List.filterMap_append.symm

/-- An event that carries no result and no response. -/
theorem silent (h : ObservationInv p busy attempt hist out responses) (he : eventWellFormed e = true)
    (hb : busyStep busy e = some busy') (ha : attemptStep attempt e = some attempt') (hd : delivered [e] = [])
    (hr : answers [e] = []) : ObservationInv p busy' attempt' (hist ++ [e]) out responses := by
  simpa [hd, hr] using h.append he hb ha (by simp [hd]) (by simp [hr])

/-- DELIVER pushes the result its event carries (R176). -/
theorem deliver (h : ObservationInv p busy true hist out responses) {r : TransferResult} (hr : resultSound p r) :
    ObservationInv p busy false (hist ++ [.deliver (opWord .deliver) r]) (out ++ [r]) responses := by
  simpa [delivered, answers] using
    h.append (eventWellFormed_deliver r) rfl rfl (List.forall_mem_singleton.2 hr) nofun

/-- A command gives the response its event carries (R82, R180). -/
theorem command (h : ObservationInv p busy attempt hist out responses) {r : Response} (he : eventWellFormed e = true)
    (hr : answers [e] = [r]) (hc : r.code ≠ .errCmd) :
    ObservationInv p busy attempt (hist ++ [e]) out (responses ++ [r]) := by
  cases e with
  | op | busByte | deliver | reset => cases hr
  | bind | unbind | regRead | regWrite =>
    simpa [hr, delivered] using h.append he rfl rfl nofun (by simpa [hr] using hc)

/-- ERR_CMD stands in no history entry (R79, R80). -/
theorem reject (h : ObservationInv p busy attempt hist out responses) (data : Word) :
    ObservationInv p busy attempt hist out (responses ++ [{ code := .errCmd, data := data }]) :=
  { h with answered := by simpa using h.answered }

end ObservationInv

/-! ## The part that speaks of the hardware -/

/-- The invariants of every field but the observation, as in `EngineInvWith`. -/
structure HardwareInv (p : Params) (s : State) : Prop where
  unbound : s.bound = false →
    s.phase = .idle ∧ s.pending = false ∧ s.busyOut = false ∧ s.csActive = false ∧ s.unbinding = false
  busy : s.busyOut = busyPhase s.phase
  chipSelect : s.csActive = true ↔ s.phase = .reading
  count : s.phase = .reading → s.busCount ≤ blockLen s
  length : s.bound = true → lengthFits p s.cfgPayloadLen = true
  latched : s.resKind = .none ↔ s.phase ≠ .deliver
  unbinding : s.unbinding = true → s.bound = true ∧ s.phase ≠ .idle ∧ s.pending = false
  latchClear : s.resKind ≠ .mismatch → s.resExpected = 0#32 ∧ s.resReceived = 0#32
  latchMismatch : s.resKind = .mismatch → s.resExpected ≠ s.resReceived
  latchOk : s.resKind = .ok → ∃ payload, memRead p s 0 (payloadLen s) = some payload
    ∧ loadField p s (payloadLen s) = some (crc32be p payload)
  complete : s.phase = .readDone ∨ s.phase = .validate ∨ s.resKind = .ok → s.busCount = blockLen s
  known : s.phase = .reading ∨ s.phase = .readDone ∨ s.phase = .validate ∨ s.resKind = .ok →
    received s s.busCount.toNat
  memory : Memory.wf p s.buf = true

/-- What a phase asks of XFER_COUNT and the bytes received so far: in P_READING no more than the block, and from the
read's end to CRC_VALIDATE the whole of it (R112, R45 I4). -/
def CountFitsPhase (s : State) (q : Phase) (n : Word) : Prop :=
  match q with
  | .reading => n ≤ blockLen s ∧ received s n.toNat
  | .readDone | .validate => n = blockLen s ∧ received s n.toNat
  | .idle | .taken | .asserted | .readFailed | .deliver => True

namespace HardwareInv

variable {p : Params} {s : State}

theorem observe (h : HardwareInv p s) (hist : List Event) (out : List TransferResult) (responses : List Response) :
    HardwareInv p { s with hist := hist, out := out, responses := responses } :=
  { h with }

theorem inputs (h : HardwareInv p s) (m : Feed Move) (w : Feed Word) (d : Feed Bool) :
    HardwareInv p { s with moves := m, port := w, draws := d } :=
  { h with }

/-- Before DELIVER's phase nothing is latched (I5). -/
theorem latch_empty (h : HardwareInv p s) (hd : s.phase ≠ .deliver) :
    s.resKind = .none ∧ s.resExpected = 0#32 ∧ s.resReceived = 0#32 := by
  have hnone := h.latched.2 hd
  exact ⟨hnone, h.latchClear (by simp [hnone])⟩

/-- A waiting UNBIND has dropped the notification (I6). -/
theorem not_pending (h : HardwareInv p s) (hu : s.unbinding = true) : s.pending = false := by
  obtain ⟨-, -, hpending⟩ := h.unbinding hu
  exact hpending

/-- What the invariants come to in Idle: nothing is latched, the pins rest and no UNBIND waits. -/
theorem of_idle {t : State} (hphase : t.phase = .idle)
    (hlatch : t.resKind = .none ∧ t.resExpected = 0#32 ∧ t.resReceived = 0#32)
    (hpins : t.busyOut = false ∧ t.csActive = false) (hunbinding : t.unbinding = false)
    (hpending : t.bound = false → t.pending = false)
    (hlength : t.bound = true → lengthFits p t.cfgPayloadLen = true) (hmemory : Memory.wf p t.buf = true) :
    HardwareInv p t := by
  obtain ⟨hkind, hexpected, hreceived⟩ := hlatch
  obtain ⟨hbusy, hcs⟩ := hpins
  exact
    { unbound := fun hb => ⟨hphase, hpending hb, hbusy, hcs, hunbinding⟩
      busy := by simp [hphase, hbusy, busyPhase]
      chipSelect := by simp [hphase, hcs]
      count := by simp [hphase]
      length := hlength
      latched := by simp [hphase, hkind]
      unbinding := by simp [hunbinding]
      latchClear := fun _ => ⟨hexpected, hreceived⟩
      latchMismatch := by simp [hkind]
      latchOk := by simp [hkind]
      complete := by simp [hphase, hkind]
      known := by simp [hphase, hkind]
      memory := hmemory }

theorem powerOn (p : Params) : HardwareInv p (State.powerOn p) :=
  of_idle rfl ⟨rfl, rfl, rfl⟩ ⟨rfl, rfl⟩ rfl (fun _ => rfl) nofun rfl

theorem hardwareReset (p : Params) (ready : Bool) (s : State) :
    HardwareInv p (Machine.hardwareReset p ready s) :=
  of_idle rfl ⟨rfl, rfl, rfl⟩ ⟨rfl, rfl⟩ rfl (fun _ => rfl) nofun rfl

/-- A session that ends in Idle leaves the engine unbound with no byte known (R182). -/
theorem teardown {s : State} (hphase : s.phase = .idle)
    (hlatch : s.resKind = .none ∧ s.resExpected = 0#32 ∧ s.resReceived = 0#32) :
    HardwareInv p (Machine.teardown s) :=
  of_idle hphase hlatch ⟨rfl, rfl⟩ rfl (fun _ => rfl) nofun rfl

/-- BIND opens a session in Idle (R181). -/
theorem openSession (h : HardwareInv p s) (hfits : lengthFits p s.cfgPayloadLen = true) :
    HardwareInv p (Machine.openSession s) :=
  of_idle rfl ⟨rfl, rfl, rfl⟩ ⟨rfl, rfl⟩ rfl nofun (fun _ => hfits) h.memory

/-- An unbound engine is in Idle, so its configuration is free to change (R184). -/
theorem configure (h : HardwareInv p s) (hb : s.bound = false) (clk len : Word) :
    HardwareInv p { s with cfgClkHz := clk, cfgPayloadLen := len } := by
  obtain ⟨hphase, hpending, hbusy, hcs, hunbinding⟩ := h.unbound hb
  exact of_idle hphase (h.latch_empty (by simp [hphase])) ⟨hbusy, hcs⟩ hunbinding (fun _ => hpending)
    (by simp [hb]) h.memory

/-- UNBIND during an attempt waits, and drops the notification (R182). -/
theorem deferUnbind (h : HardwareInv p s) (hb : s.bound = true) (hphase : s.phase ≠ .idle) :
    HardwareInv p (Machine.deferUnbind s) :=
  { h with
    unbound := by simp [hb]
    unbinding := fun _ => ⟨hb, hphase, rfl⟩ }

/-- READY is the peripheral's: no invariant speaks of it (R25). -/
theorem setReady (h : HardwareInv p s) (ready : Bool) : HardwareInv p { s with readyIn := ready } :=
  { h with }

/-- In a session with no UNBIND waiting the notification is free (R24). -/
theorem sample (h : HardwareInv p s) (hb : s.bound = true) (hu : s.unbinding = false) (pending prev : Bool) :
    HardwareInv p { s with pending := pending, readyPrev := prev } :=
  { h with
    unbound := by simp [hb]
    unbinding := by simp [hu] }

/-- The notification may be acknowledged in any state (R156). -/
theorem acknowledge (h : HardwareInv p s) (level : Bool) :
    HardwareInv p { s with pending := false, readyAtTake := level } :=
  { h with
    unbound := fun hb =>
      have ⟨hphase, _, hpins⟩ := h.unbound hb
      ⟨hphase, rfl, hpins⟩
    unbinding := fun hu =>
      have ⟨hb, hphase, _⟩ := h.unbinding hu
      ⟨hb, hphase, rfl⟩ }

/-- The worker or the bus goes on to a phase of the attempt before its result is latched: the pins are that phase's, and
the bytes it rests on are there. -/
theorem advance (h : HardwareInv p s) {q : Phase} {busy cs : Bool} {n : Word} (hb : s.bound = true)
    (hs : s.phase ≠ .deliver) (hidle : q ≠ .idle) (hdeliver : q ≠ .deliver) (hbusy : busy = busyPhase q)
    (hcs : cs = true ↔ q = .reading) (hblock : CountFitsPhase s q n) :
    HardwareInv p { s with busyOut := busy, csActive := cs, busCount := n, phase := q } := by
  obtain ⟨hkind, -, -⟩ := h.latch_empty hs
  have hcount : q = .reading → n ≤ blockLen s := by rintro rfl; exact hblock.1
  have hcomplete : q = .readDone ∨ q = .validate → n = blockLen s := by rintro (rfl | rfl) <;> exact hblock.1
  have hknown : q = .reading ∨ q = .readDone ∨ q = .validate → received s n.toNat := by
    rintro (rfl | rfl | rfl) <;> exact hblock.2
  exact { h with
    unbound := by simp [hb]
    busy := hbusy
    chipSelect := hcs
    count := hcount
    latched := by simp [hkind, hdeliver]
    unbinding := fun hu => ⟨hb, hidle, h.not_pending hu⟩
    latchOk := by simp [hkind]
    complete := fun hc => hcomplete (by simpa [hkind] using hc)
    known := fun hk => hknown (by simpa [hkind] using hk) }

/-- A byte received is known, and the count does not pass BLOCK_LEN (R111, R63). -/
theorem receive (h : HardwareInv p s) (hphase : s.phase = .reading) (hlt : s.busCount < blockLen s)
    (hin : s.busCount.toNat < p.bufCapacity) (b : Byte) :
    HardwareInv p { s with buf := Memory.store s.busCount.toNat b s.buf, busCount := s.busCount + 1#32 } := by
  obtain ⟨hkind, -, -⟩ := h.latch_empty (by simp [hphase])
  have hnext : (s.busCount + 1#32).toNat = s.busCount.toNat + 1 := by bv_omega
  exact { h with
    count := fun _ => show s.busCount + 1#32 ≤ blockLen s by bv_omega
    latchOk := by simp [hkind]
    complete := by simp [hphase, hkind]
    known := fun _ a ha => by
      by_cases he : a = s.busCount.toNat
      · simp [he]
      · exact find_store_isSome (h.known (.inl hphase) a (by simp only [hnext] at ha; omega)) _ _
    memory := wf_store b h.memory hin }

/-- A result is latched for DELIVER with BUSY low and chip-select released (R102, R132). -/
theorem latch (h : HardwareInv p s) {kind : ResKind} {expected got : Word} {busy : Bool} (hb : s.bound = true)
    (hbusy : busy = false) (hreading : s.phase ≠ .reading) (hkind : kind ≠ .none)
    (hclear : kind ≠ .mismatch → expected = 0#32 ∧ got = 0#32) (hmismatch : kind = .mismatch → expected ≠ got)
    (hok : kind = .ok → s.phase = .validate ∧ ∃ payload, memRead p s 0 (payloadLen s) = some payload
      ∧ loadField p s (payloadLen s) = some (crc32be p payload)) :
    HardwareInv p { Machine.latch kind expected got s with busyOut := busy, phase := .deliver } :=
  { h with
    unbound := by simp [hb]
    busy := hbusy
    chipSelect := by simpa [hreading] using h.chipSelect
    count := by simp
    latched := by simp [hkind]
    unbinding := fun hu => ⟨hb, by simp, h.not_pending hu⟩
    latchClear := hclear
    latchMismatch := hmismatch
    latchOk := fun hk => (hok hk).2
    complete := fun hk => h.complete (.inr (.inl (hok (by simpa using hk)).1))
    known := fun hk => h.known (.inr (.inr (.inl (hok (by simpa using hk)).1))) }

/-- DELIVER returns to Idle, and ends a session whose UNBIND waited (R175). -/
theorem leaveAttempt (h : HardwareInv p s) (hb : s.bound = true) (hphase : s.phase = .deliver) (r : TransferResult) :
    HardwareInv p (Machine.leaveAttempt r s) := by
  cases hu : s.unbinding with
  | true =>
    have hend : Machine.leaveAttempt r s
        = Machine.teardown { Machine.latch .none 0#32 0#32 (emit r s) with phase := .idle } := by
      simp [Machine.leaveAttempt, endIfUnbinding, hu]
    exact hend ▸ teardown rfl ⟨rfl, rfl, rfl⟩
  | false =>
    have hpins : s.busyOut = false ∧ s.csActive = false :=
      ⟨by simp [h.busy, hphase, busyPhase], by simpa [hphase] using h.chipSelect⟩
    exact of_idle (by simp) (by simp) (by simpa [hu] using hpins) (by simp) (by simp [hb, hu])
      (fun _ => by simpa using h.length hb) (by simpa [hu] using h.memory)

end HardwareInv

/-! ## The two parts together -/

theorem EngineInvWith.hardware {p : Params} {s : State} (h : EngineInvWith p s) : HardwareInv p s :=
  { h with }

theorem EngineInvWith.observation {p : Params} {s : State} (h : EngineInvWith p s) :
    ObservationInv p (busyPhase s.phase) (transferring s) s.hist s.out s.responses :=
  { h with }

theorem EngineInvWith.of_parts {p : Params} {s : State} (hh : HardwareInv p s)
    (ho : ObservationInv p (busyPhase s.phase) (transferring s) s.hist s.out s.responses) : EngineInvWith p s :=
  { hh, ho with }

theorem EngineInvWith.observation_at {p : Params} {s : State} {ph : Phase} (h : EngineInvWith p s)
    (hphase : s.phase = ph) :
    ObservationInv p (busyPhase ph) (decide (ph ≠ .idle)) s.hist s.out s.responses :=
  hphase ▸ h.observation

/-- BUSY in a given phase (I2). -/
theorem EngineInvWith.busyOut_at {p : Params} {s : State} {ph : Phase} (h : EngineInvWith p s)
    (hphase : s.phase = ph) : s.busyOut = busyPhase ph :=
  hphase ▸ h.busy

/-- Chip-select in a given phase (I3). -/
theorem EngineInvWith.csActive_at {p : Params} {s : State} {ph : Phase} (h : EngineInvWith p s)
    (hphase : s.phase = ph) : s.csActive = true ↔ ph = .reading :=
  hphase ▸ h.chipSelect

/-- A recorded step keeps the invariants if its update keeps those of the hardware and its event those of the
observation. -/
theorem engineInv_record {p : Params} {e : Event} {u : State} (hh : HardwareInv p u)
    (ho : ObservationInv p (busyPhase u.phase) (transferring u) (u.hist ++ [e]) u.out u.responses) :
    EngineInvWith p (record e u) :=
  .of_parts (hh.observe _ _ _) ho

/-- A command keeps the invariants if its update keeps those of the hardware. -/
theorem engineInv_reply {p : Params} {event : Response → Event} {code : RespCode} {data : Word} {u : State}
    (hh : HardwareInv p u)
    (ho : ObservationInv p (busyPhase u.phase) (transferring u) u.hist u.out u.responses)
    (he : ∀ r, eventWellFormed (event r) = true) (hr : ∀ r, answers [event r] = [r]) (hc : code ≠ .errCmd) :
    EngineInvWith p (reply event code data u) :=
  .of_parts (hh.observe _ _ _) (ho.command (he _) (hr _) hc)

/-! ## Each operation keeps the invariants -/

section Operations

variable {p : Params} {s t : State}

theorem execReadyHigh_keeps (h : EngineInvWith p s) (hx : execReadyHigh s = .next t) : EngineInvWith p t := by
  rcases execReadyHigh_next hx with ⟨-, rfl⟩ | rfl
  · exact engineInv_record (h.hardware.setReady true) (h.observation.silent rfl rfl rfl rfl rfl)
  · exact h

theorem execReadyLow_keeps (h : EngineInvWith p s) (hx : execReadyLow s = .next t) : EngineInvWith p t := by
  rcases execReadyLow_next hx with ⟨-, rfl⟩ | rfl
  · exact engineInv_record (h.hardware.setReady false) (h.observation.silent rfl rfl rfl rfl rfl)
  · exact h

theorem execEdgeSample_keeps (h : EngineInvWith p s) (hx : execEdgeSample s = .next t) : EngineInvWith p t := by
  rcases execEdgeSample_next hx with ⟨⟨hb, hu, -⟩, rfl⟩ | rfl
  · exact engineInv_record (h.hardware.sample hb hu _ _) (h.observation.silent rfl rfl rfl rfl rfl)
  · exact h

theorem execTake_keeps (h : EngineInvWith p s) (hx : execTake s = .next t) : EngineInvWith p t := by
  rcases execTake_next hx with ⟨⟨hb, hphase, -⟩, rfl⟩ | rfl
  · have hcs : s.csActive = true ↔ Phase.taken = .reading := by simpa using h.csActive_at hphase
    have hentered : HardwareInv p (enterAttempt s) :=
      (h.hardware.acknowledge s.readyIn).advance hb (by simp [hphase]) (by decide) (by decide)
        (h.busyOut_at hphase :) hcs trivial
    exact engineInv_record hentered ((h.observation_at hphase).silent rfl rfl rfl rfl rfl)
  · exact h

theorem execAssertBusy_keeps (h : EngineInvWith p s) (hx : execAssertBusy s = .next t) : EngineInvWith p t := by
  rcases execAssertBusy_next hx with ⟨⟨hb, hphase⟩, rfl⟩ | rfl
  · have hcs : s.csActive = true ↔ Phase.asserted = .reading := by simpa using h.csActive_at hphase
    exact engineInv_record
      (h.hardware.advance hb (by simp [hphase]) (by decide) (by decide) rfl hcs trivial)
      ((h.observation_at hphase).silent rfl rfl rfl rfl rfl)
  · exact h

theorem execReadBlock_keeps (h : EngineInvWith p s) (hx : execReadBlock s = .next t) : EngineInvWith p t := by
  rcases execReadBlock_next hx with ⟨⟨hb, hphase⟩, rfl⟩ | rfl
  · have hblock : CountFitsPhase s .reading 0#32 := ⟨Nat.zero_le _, nofun⟩
    exact engineInv_record
      (h.hardware.advance hb (by simp [hphase]) (by decide) (by decide) (h.busyOut_at hphase :) (by simp) hblock)
      ((h.observation_at hphase).silent rfl rfl rfl rfl rfl)
  · exact h

theorem execBusByteWith_keeps {b : Byte} (h : EngineInvWith p s) (hx : execBusByteWith p b s = .next t) :
    EngineInvWith p t := by
  rcases execBusByteWith_next hx with ⟨⟨-, hphase, hlt⟩, hin, rfl⟩ | rfl
  · exact engineInv_record (h.hardware.receive hphase hlt hin b)
      (h.observation.silent (eventWellFormed_busByte b) rfl rfl rfl rfl)
  · exact h

theorem execBusEnd_keeps (h : EngineInvWith p s) (hx : execBusEnd s = .next t) : EngineInvWith p t := by
  rcases execBusEnd_next hx with ⟨⟨hb, hphase, hfull⟩, rfl⟩ | rfl
  · exact engineInv_record
      (h.hardware.advance hb (by simp [hphase]) (by decide) (by decide) (h.busyOut_at hphase :) (by simp)
        ⟨hfull, h.known (.inl hphase)⟩)
      ((h.observation_at hphase).silent rfl rfl rfl rfl rfl)
  · exact h

theorem execBusError_keeps (h : EngineInvWith p s) (hx : execBusError s = .next t) : EngineInvWith p t := by
  rcases execBusError_next hx with ⟨⟨hb, hphase⟩, rfl⟩ | rfl
  · exact engineInv_record
      (h.hardware.advance hb (by simp [hphase]) (by decide) (by decide) (h.busyOut_at hphase :) (by simp) trivial)
      ((h.observation_at hphase).silent rfl rfl rfl rfl rfl)
  · exact h

/-- After a completed read the worker goes on to the CRC; after a failed one the bus failure is latched (R102, R173). -/
theorem execDeassertBusy_keeps (h : EngineInvWith p s) (hx : execDeassertBusy s = .next t) : EngineInvWith p t := by
  rcases execDeassertBusy_next hx with ⟨⟨hb, hphase⟩, rfl⟩ | ⟨⟨hb, hphase⟩, rfl⟩ | rfl
  · have hcs : s.csActive = true ↔ Phase.validate = .reading := by simpa using h.csActive_at hphase
    exact engineInv_record
      (h.hardware.advance hb (by simp [hphase]) (by decide) (by decide) rfl hcs
        ⟨h.complete (.inl hphase), h.known (.inr (.inl hphase))⟩)
      ((h.observation_at hphase).silent rfl rfl rfl rfl rfl)
  · exact engineInv_record
      (h.hardware.latch hb rfl (by simp [hphase]) (by decide) (fun _ => ⟨rfl, rfl⟩) nofun nofun)
      ((h.observation_at hphase).silent rfl rfl rfl rfl rfl)
  · exact h

theorem execCrcValidateWith_keeps (h : EngineInvWith p s) (hx : execCrcValidateWith p s = .next t) :
    EngineInvWith p t := by
  rcases execCrcValidateWith_next hx with ⟨payload, got, ⟨hb, hphase⟩, hpayload, hgot, rfl⟩ | rfl
  · rcases latchVerdict_cases p payload got s with ⟨heq, hverdict⟩ | ⟨hne, hverdict⟩ <;> rw [hverdict]
    · exact engineInv_record
        (h.hardware.latch hb (h.busyOut_at hphase) (by simp [hphase]) (by decide) (fun _ => ⟨rfl, rfl⟩) nofun
          (fun _ => ⟨hphase, payload, hpayload, heq ▸ hgot⟩))
        ((h.observation_at hphase).silent rfl rfl rfl rfl rfl)
    · exact engineInv_record
        (h.hardware.latch hb (h.busyOut_at hphase) (by simp [hphase]) (by decide) (by simp) (fun _ => hne) nofun)
        ((h.observation_at hphase).silent rfl rfl rfl rfl rfl)
  · exact h

/-- The latched result is what R83 and R133 promise of a Transfer Result. -/
theorem latchedResult_sound (h : EngineInvWith p s) (hb : s.bound = true) {r : TransferResult}
    (hr : latchedResult p s = .ok r) : resultSound p r := by
  rcases latchedResult_ok hr with ⟨-, payload, hpayload, rfl⟩ | ⟨-, rfl⟩ | ⟨hkind, rfl⟩
  · have hfits : payloadLen s + 4 ≤ p.bufCapacity := of_decide_eq_true (h.length hb)
    simpa [resultSound, memRead_length hpayload] using hfits
  · trivial
  · exact h.latchMismatch hkind

theorem execDeliverWith_keeps (h : EngineInvWith p s) (hx : execDeliverWith p s = .next t) : EngineInvWith p t := by
  rcases execDeliverWith_next hx with ⟨r, ⟨hb, hphase⟩, hr, rfl⟩ | rfl
  · have ho := (h.observation_at hphase).deliver (latchedResult_sound h hb hr)
    exact engineInv_record (h.hardware.leaveAttempt hb hphase r) (by simpa [transferring, busyPhase] using ho)
  · exact h

theorem execBindWith_keeps (h : EngineInvWith p s) (hx : execBindWith p s = .next t) : EngineInvWith p t := by
  have hdrawn : HardwareInv p (dropDraw s) := h.hardware.inputs _ _ _
  rcases execBindWith_next hx with ⟨-, rfl⟩ | ⟨-, -, rfl⟩ | ⟨hb, haccepted, rfl⟩
  · exact engineInv_reply hdrawn h.observation (eventWellFormed_bind _) (fun _ => rfl) nofun
  · exact engineInv_reply hdrawn h.observation (eventWellFormed_bind _) (fun _ => rfl) nofun
  · have hfits : lengthFits p s.cfgPayloadLen = true := by
      by_contra hno
      simp [bindRefused, hno] at haccepted
    exact engineInv_reply (hdrawn.openSession hfits) (h.observation_at (h.unbound hb).1) (eventWellFormed_bind _)
      (fun _ => rfl) nofun

theorem execUnbind_keeps (h : EngineInvWith p s) (hx : execUnbind s = .next t) : EngineInvWith p t := by
  rcases execUnbind_next hx with ⟨-, rfl⟩ | ⟨⟨-, -, hphase⟩, rfl⟩ | ⟨⟨hb, -, hphase⟩, rfl⟩
  · exact engineInv_reply h.hardware h.observation eventWellFormed_unbind (fun _ => rfl) nofun
  · exact engineInv_reply (.teardown hphase (h.hardware.latch_empty (by simp [hphase]))) h.observation
      eventWellFormed_unbind (fun _ => rfl) nofun
  · exact engineInv_reply (h.hardware.deferUnbind hb hphase) h.observation eventWellFormed_unbind (fun _ => rfl) nofun

theorem execRegReadWith_keeps {r : Word} (h : EngineInvWith p s) (hx : execRegReadWith p r s = .next t) :
    EngineInvWith p t := by
  rcases execRegReadWith_next hx with ⟨reg, -, rfl⟩ | ⟨-, rfl⟩ <;>
    exact engineInv_reply h.hardware h.observation (eventWellFormed_regRead r) (fun _ => rfl) nofun

theorem execRegWrite_keeps {r v : Word} (h : EngineInvWith p s) (hx : execRegWrite r v s = .next t) :
    EngineInvWith p t := by
  cases execRegWrite_next hx
  rcases writeControlReg_cases r v s with ⟨hb, -, hw⟩ | ⟨hb, -, hw⟩ | ⟨-, -, hw⟩ | ⟨-, -, hw⟩ <;> rw [hw]
  · exact engineInv_reply (h.hardware.configure hb v _) h.observation (eventWellFormed_regWrite r v)
      (fun _ => rfl) nofun
  · exact engineInv_reply (h.hardware.configure hb _ v) h.observation (eventWellFormed_regWrite r v)
      (fun _ => rfl) nofun
  · exact engineInv_reply h.hardware h.observation (eventWellFormed_regWrite r v) (fun _ => rfl) nofun
  · exact engineInv_reply h.hardware h.observation (eventWellFormed_regWrite r v) (fun _ => rfl) nofun

end Operations

/-! ## Every move keeps the invariants -/

theorem execWith_keeps {p : Params} {i : Instr} {s t : State} (h : EngineInvWith p s)
    (hx : execWith p i s = .next t) : EngineInvWith p t := by
  cases i with
  | bind => exact execBindWith_keeps h hx
  | unbind => exact execUnbind_keeps h hx
  | regRead r => exact execRegReadWith_keeps h hx
  | regWrite r v => exact execRegWrite_keeps h hx
  | readyLow => exact execReadyLow_keeps h hx
  | readyHigh => exact execReadyHigh_keeps h hx
  | edgeSample => exact execEdgeSample_keeps h hx
  | take => exact execTake_keeps h hx
  | assertBusy => exact execAssertBusy_keeps h hx
  | readBlock => exact execReadBlock_keeps h hx
  | deassertBusy => exact execDeassertBusy_keeps h hx
  | crcValidate => exact execCrcValidateWith_keeps h hx
  | deliver => exact execDeliverWith_keeps h hx
  | busByte b => exact execBusByteWith_keeps h hx
  | busError => exact execBusError_keeps h hx
  | busEnd => exact execBusEnd_keeps h hx

theorem rejectCommand_keeps {p : Params} {s : State} (h : EngineInvWith p s) : EngineInvWith p (rejectCommand s) :=
  .of_parts ((h.hardware.inputs _ _ _).observe _ _ _) (h.observation.reject 0#32)

/-- The observation of an engine that is reset goes on, whatever was in progress (R230). -/
theorem hardwareReset_keeps {p : Params} {s : State} (h : EngineInvWith p s) (ready : Bool) :
    EngineInvWith p (hardwareReset p ready s) :=
  .of_parts (.hardwareReset p ready s) (h.observation.silent rfl rfl rfl rfl rfl)

/-- R45: one step of the machine over the parameters keeps the invariants. -/
theorem stepWith_keeps {p : Params} {s t : State} (h : EngineInvWith p s) (hx : stepWith p s = .next t) :
    EngineInvWith p t := by
  have hmoved : EngineInvWith p (dropMove s) := engineInv_inputs h _ _ _
  rcases makeMove_next hx with ⟨i, -, -, hi⟩ | ⟨-, -, rfl⟩ | ⟨w, i, -, -, hi⟩ | ⟨w, -, -, rfl⟩ | ⟨ready, -, rfl⟩
  · exact execWith_keeps (engineInv_inputs hmoved _ _ _) hi
  · exact rejectCommand_keeps hmoved
  · exact execWith_keeps hmoved hi
  · exact hmoved
  · exact hardwareReset_keeps hmoved ready

theorem engineInv_powerOn (p : Params) : EngineInvWith p (State.powerOn p) :=
  .of_parts (.powerOn p) (.nil p)

/-! ## STATUS -/

/-- The flags are bits 7:0, `bound` lowest (R32). -/
theorem statusWord_flags (s : State) :
    (statusWord s).getLsbD 0 = s.bound ∧ (statusWord s).getLsbD 1 = transferring s
    ∧ (statusWord s).getLsbD 2 = s.pending ∧ (statusWord s).getLsbD 3 = s.busyOut
    ∧ (statusWord s).getLsbD 4 = s.readyIn ∧ (statusWord s).getLsbD 5 = s.readyAtTake
    ∧ (statusWord s).getLsbD 6 = s.csActive ∧ (statusWord s).getLsbD 7 = s.unbinding := by
  simp only [statusWord, BitVec.getLsbD_setWidth, BitVec.getLsbD_append, BitVec.getLsbD_ofBool]
  simp

/-- Above the flags stands the phase, and above its three bits nothing (R32). -/
theorem statusWord_getLsbD_above (s : State) (k : Nat) :
    (statusWord s).getLsbD (k + 8) = s.phase.code.getLsbD k := by
  have hlow : s.phase.code.getLsbD k = true → k + 8 < 32 := fun hk => by
    have := BitVec.lt_of_getLsbD hk
    omega
  simp only [statusWord, BitVec.getLsbD_setWidth, BitVec.getLsbD_append, BitVec.getLsbD_ofBool]
  simpa using hlow

theorem statusWord_phase (s : State) : (statusWord s).extractLsb' 8 3 = s.phase.code := by
  apply BitVec.eq_of_getLsbD_eq
  intro i hi
  rw [BitVec.getLsbD_extractLsb', Nat.add_comm, statusWord_getLsbD_above]
  simp [hi]

theorem statusWord_reserved (s : State) : (statusWord s).extractLsb' 11 21 = 0#21 := by
  apply BitVec.eq_of_getLsbD_eq
  intro i hi
  have habove : 11 + i = (i + 3) + 8 := by omega
  rw [BitVec.getLsbD_extractLsb', habove, statusWord_getLsbD_above]
  simp

/-- Reading STATUS has no side effect (R32, R183). -/
theorem exec_regRead_status (s : State) :
    exec (.regRead 0x00#32) s = .next { s with
      responses := s.responses ++ [{ code := .ok, data := statusWord s }]
      hist := s.hist ++ [.regRead 0x00000003#32 { code := .ok, data := statusWord s }] } := by
  have hword : opWord (.regRead 0x00#32) = 0x00000003#32 := by decide
  have hread := execRegReadWith_assigned (regOfNumber_regNumber .status) Config.engine s
  rw [regNumber, hword] at hread
  exact hread

/-- STATUS is read-only: its write is refused whatever the state (R32, R184). -/
theorem exec_regWrite_status (v : Word) (s : State) :
    exec (.regWrite 0x00#32 v) s = .next { s with
      responses := s.responses ++ [{ code := .errReg, data := 0#32 }]
      hist := s.hist ++ [.regWrite 0x00000004#32 v { code := .errReg, data := 0#32 }] } := by
  have hword : opWord (.regWrite 0x00#32 v) = 0x00000004#32 := show formatO 0x00#8 0x04#8 = _ by decide
  have hwrite : exec (.regWrite 0x00#32 v) s
      = .next (reply (.regWrite (opWord (.regWrite 0x00#32 v)) v) .errReg 0#32 s) := rfl
  rw [hwrite, hword]
  rfl

/-! ## The statements of 10_state.md -/

/-- Settles O52: the lemma over the parameters, at the defaults and for any other choice. -/
theorem everyStepKeepsTheInvariants : Obligations.EveryStepKeepsTheInvariants :=
  ⟨fun s _ h hx => stepWith_keeps h (step_eq_stepWith s ▸ hx), fun _ _ _ _ h hx => stepWith_keeps h hx⟩

/-- Settles O48: the flags, the phase above them, and the read and the write of STATUS. -/
theorem statusPacksTheFlags : Obligations.StatusPacksTheFlags := by
  intro s
  obtain ⟨hbound, htransferring, hpending, hbusy, hready, htake, hcs, hunbinding⟩ := statusWord_flags s
  have hstate : (statusWord s).getLsbD 1 = true ↔ s.phase ≠ .idle := by
    rw [htransferring]
    exact decide_eq_true_iff
  exact ⟨hbound, hstate, hpending, hbusy, hready, htake, hcs, hunbinding, statusWord_phase s,
    statusWord_reserved s, exec_regRead_status s, fun v => exec_regWrite_status v s⟩

/-- Settles O49: hardware reset whatever the state, at the defaults. -/
theorem hardwareResetLeavesTheResetState : Obligations.HardwareResetLeavesTheResetState := by
  intro s ready hm
  rw [step_eq_stepWith, stepWith_hardwareReset Config.engine hm]
  rfl

/-- Settles O50: `State.reset` is written out field by field. -/
theorem powerOnStateHasTheSpecsValues : Obligations.PowerOnStateHasTheSpecsValues :=
  ⟨rfl, rfl, rfl, rfl, rfl, rfl, rfl, rfl, rfl, rfl, rfl, rfl, rfl, rfl, rfl, rfl⟩

/-- Settles O51: an engine that has just powered on is in Idle with nothing observed. -/
theorem invariantsHoldAfterPowerOn : Obligations.InvariantsHoldAfterPowerOn :=
  ⟨engineInv_powerOn, engineInv_powerOn Config.engine⟩

end Sys2Proof.Machine


namespace Sys2Proof.Machine

/-! SUPPORT. The receive buffer: the value of the checksum field, what an operation does to the buffer, and the stops at
its end. -/

/-! ## The checksum field -/

/-- A byte placed above bits that stay below it adds its weight. -/
theorem toNat_or_byte_shiftLeft {n : Nat} {w : Word} (b : Byte) (hw : w.toNat < 2 ^ n) (hn : n + 8 ≤ 32) :
    (w ||| b.setWidth 32 <<< n).toNat = w.toNat + 2 ^ n * b.toNat := by
  have hfits : b.toNat * 2 ^ n < 2 ^ 32 :=
    calc b.toNat * 2 ^ n < 2 ^ 8 * 2 ^ n := Nat.mul_lt_mul_of_pos_right b.isLt (Nat.two_pow_pos n)
      _ = 2 ^ (n + 8) := by rw [Nat.pow_add, Nat.mul_comm]
      _ ≤ 2 ^ 32 := Nat.pow_le_pow_right (by decide) hn
  have hbyte : (b.setWidth 32 <<< n).toNat = 2 ^ n * b.toNat := by
    rw [BitVec.toNat_shiftLeft, BitVec.toNat_setWidth_of_le (by decide), Nat.shiftLeft_eq, Nat.mod_eq_of_lt hfits,
      Nat.mul_comm]
  rw [BitVec.toNat_or, hbyte, Nat.or_comm, ← Nat.two_pow_add_eq_or_of_lt hw, Nat.add_comm]

/-- Little-endian: the byte at the lowest address weighs least (R53). -/
theorem load32_le_toNat (b0 b1 b2 b3 : Byte) :
    (load32 .le b0 b1 b2 b3).toNat = b0.toNat + 2 ^ 8 * b1.toNat + 2 ^ 16 * b2.toNat + 2 ^ 24 * b3.toNat := by
  have h0 : (b0.setWidth 32).toNat = b0.toNat := BitVec.toNat_setWidth_of_le (by decide)
  have h1 := toNat_or_byte_shiftLeft (n := 8) b1 (w := b0.setWidth 32) (by omega) (by decide)
  have h2 := toNat_or_byte_shiftLeft (n := 16) b2 (w := b0.setWidth 32 ||| b1.setWidth 32 <<< 8) (by omega) (by decide)
  have h3 := toNat_or_byte_shiftLeft (n := 24) b3
    (w := b0.setWidth 32 ||| b1.setWidth 32 <<< 8 ||| b2.setWidth 32 <<< 16) (by omega) (by decide)
  rw [load32, h3, h2, h1, h0]

/-- Big-endian is little-endian of the bytes in the opposite order (R53). -/
theorem load32_be_eq_le (b0 b1 b2 b3 : Byte) : load32 .be b0 b1 b2 b3 = load32 .le b3 b2 b1 b0 := by
  rw [load32, load32, BitVec.or_comm _ (b3.setWidth 32), BitVec.or_comm (b0.setWidth 32 <<< 24),
    BitVec.or_comm _ (b2.setWidth 32 <<< 8), ← BitVec.or_assoc, ← BitVec.or_assoc]

/-- Big-endian: the byte at the highest address weighs least (R53). -/
theorem load32_be_toNat (b0 b1 b2 b3 : Byte) :
    (load32 .be b0 b1 b2 b3).toNat = b3.toNat + 2 ^ 8 * b2.toNat + 2 ^ 16 * b1.toNat + 2 ^ 24 * b0.toNat := by
  rw [load32_be_eq_le, load32_le_toNat]

/-! ## What an operation does to the buffer -/

/-- From `s` to `t` the operation leaves the buffer alone, stores its byte at `bus_count` (R111), or ends the session, at
which no byte is known any more (R69). -/
inductive BufferChange (p : Params) (i : Instr) (s t : State) : Prop where
  | kept (buf : t.buf = s.buf) (epoch : t.bufEpoch = s.bufEpoch)
  | stored (b : Byte) (op : i = .busByte b) (phase : s.phase = .reading) (room : s.busCount.toNat < p.bufCapacity)
      (buf : t.buf = Memory.store s.busCount.toNat b s.buf) (epoch : t.bufEpoch = s.bufEpoch)
  | forgotten (op : i = .unbind ∨ i = .deliver) (before : s.bound = true) (after : t.bound = false) (buf : t.buf = [])

section Change

variable {p : Params} {i : Instr} {s t : State}

/-- An operation of PERIPH, EDGE, WORKER or BUS whose effect is one recorded update of other fields. -/
theorem bufferChange_guarded {u : State} {e : Event} (h : guarded i s (.next (record e u)) = .next t)
    (hb : u.buf = s.buf) (he : u.bufEpoch = s.bufEpoch) : BufferChange p i s t := by
  rcases guarded_next h with ⟨-, hnext⟩ | ⟨-, rfl⟩
  · cases hnext
    exact .kept hb he
  · exact .kept rfl rfl

theorem bufferChange_bind (h : execBindWith p s = .next t) : BufferChange p .bind s t := by
  rcases execBindWith_next h with ⟨-, rfl⟩ | ⟨-, -, rfl⟩ | ⟨-, -, rfl⟩ <;> exact .kept rfl rfl

theorem bufferChange_unbind (h : execUnbind s = .next t) : BufferChange p .unbind s t := by
  rcases execUnbind_next h with ⟨-, rfl⟩ | ⟨⟨hbound, -, -⟩, rfl⟩ | ⟨-, rfl⟩
  · exact .kept rfl rfl
  · exact .forgotten (.inl rfl) hbound rfl rfl
  · exact .kept rfl rfl

theorem bufferChange_regRead {r : Word} (h : execRegReadWith p r s = .next t) :
    BufferChange p (.regRead r) s t := by
  rcases execRegReadWith_next h with ⟨-, -, rfl⟩ | ⟨-, rfl⟩ <;> exact .kept rfl rfl

theorem bufferChange_regWrite {r v : Word} (h : execRegWrite r v s = .next t) :
    BufferChange p (.regWrite r v) s t := by
  cases execRegWrite_next h
  rcases writeControlReg_cases r v s with ⟨-, -, hw⟩ | ⟨-, -, hw⟩ | ⟨-, -, hw⟩ | ⟨-, -, hw⟩ <;> rw [hw] <;>
    exact .kept rfl rfl

theorem bufferChange_deassertBusy (h : execDeassertBusy s = .next t) : BufferChange p .deassertBusy s t := by
  rcases execDeassertBusy_next h with ⟨-, rfl⟩ | ⟨-, rfl⟩ | rfl <;> exact .kept rfl rfl

theorem bufferChange_crcValidate (h : execCrcValidateWith p s = .next t) : BufferChange p .crcValidate s t := by
  rcases execCrcValidateWith_next h with ⟨payload, received, -, -, -, rfl⟩ | rfl
  · exact .kept (latchVerdict_buf ..) (latchVerdict_bufEpoch ..)
  · exact .kept rfl rfl

/-- DELIVER ends the session if an UNBIND had to wait (R175, R182). -/
theorem bufferChange_deliver (h : execDeliverWith p s = .next t) : BufferChange p .deliver s t := by
  rcases execDeliverWith_next h with ⟨r, ⟨hbound, -⟩, -, rfl⟩ | rfl
  · cases hu : s.unbinding
    · exact .kept (by simp [hu]) (by simp [hu])
    · exact .forgotten (.inr rfl) hbound (by simp [hu]) (by simp [hu])
  · exact .kept rfl rfl

theorem bufferChange_busByte {b : Byte} (h : execBusByteWith p b s = .next t) :
    BufferChange p (.busByte b) s t := by
  rcases execBusByteWith_next h with ⟨⟨-, hphase, -⟩, hroom, rfl⟩ | rfl
  · exact .stored b rfl hphase hroom rfl rfl
  · exact .kept rfl rfl

theorem execWith_bufferChange (h : execWith p i s = .next t) : BufferChange p i s t := by
  cases i with
  | bind => exact bufferChange_bind h
  | unbind => exact bufferChange_unbind h
  | regRead r => exact bufferChange_regRead h
  | regWrite r v => exact bufferChange_regWrite h
  | readyLow | readyHigh | edgeSample | take | assertBusy | readBlock | busError | busEnd =>
    exact bufferChange_guarded h rfl rfl
  | deassertBusy => exact bufferChange_deassertBusy h
  | crcValidate => exact bufferChange_crcValidate h
  | deliver => exact bufferChange_deliver h
  | busByte b => exact bufferChange_busByte h

/-- A byte stored at one address leaves every other address reading as before. -/
theorem bufByte_of_store_other {a k : Nat} {b : Byte} (hb : t.buf = Memory.store a b s.buf)
    (he : t.bufEpoch = s.bufEpoch) (hk : k ≠ a) : bufByte t k = bufByte s k := by
  rw [bufByte, hb, find_store_other hk, he, bufByte]

theorem BufferChange.memory_wf (h : BufferChange p i s t) (hs : Memory.wf p s.buf = true) :
    Memory.wf p t.buf = true := by
  cases h with
  | kept buf => rwa [buf]
  | stored b _ _ room buf => exact buf ▸ wf_store b hs room
  | forgotten _ _ _ buf => exact buf ▸ wf_nil p

end Change

/-! ## The stops at the end of the buffer, and with nothing latched -/

/-- A checksum field that leaves the buffer does not read (log entry 8). -/
theorem loadField_none {p : Params} {a : Nat} (s : State) (h : p.bufCapacity < a + 4) : loadField p s a = none := by
  simp [loadField, inBuffer, h]

/-- A block that leaves the buffer has no checksum field to validate (log entry 8). -/
theorem execCrcValidateWith_outside {p : Params} {s : State} (hg : enabled .crcValidate s = true)
    (h : p.bufCapacity < payloadLen s + 4) : execCrcValidateWith p s = .fault .bufferRange := by
  rw [execCrcValidateWith, guarded_true hg, validateBlock, loadField_none s h]
  cases memRead p s 0 (payloadLen s) <;> rfl

/-- DELIVER stops where the latch stands for no result. -/
theorem execDeliverWith_error {p : Params} {s : State} {f : Fault} (hg : enabled .deliver s = true)
    (h : latchedResult p s = .error f) : execDeliverWith p s = .fault f := by
  rw [execDeliverWith, guarded_true hg, h]

/-- An OK whose payload leaves the buffer stands for no result (log entry 8). -/
theorem latchedResult_outside {p : Params} {s : State} (hk : s.resKind = .ok) (h : p.bufCapacity < payloadLen s) :
    latchedResult p s = .error .bufferRange := by
  simp only [latchedResult, hk, memRead_none (a := 0) s (by omega : p.bufCapacity < 0 + payloadLen s)]

/-- An empty latch stands for no result (log entry 9). -/
theorem latchedResult_empty {p : Params} {s : State} (hk : s.resKind = .none) :
    latchedResult p s = .error .noResult := by
  simp only [latchedResult, hk]

/-! ## The statements of 20_memory.md -/

/-- Settles O38: little-endian byte by byte, and big-endian through it. -/
theorem loadOfTheFieldPlacesEachByte : Obligations.LoadOfTheFieldPlacesEachByte :=
  ⟨rfl, fun _ s _ => loadField_eq s, fun b0 b1 b2 b3 => ⟨load32_le_toNat b0 b1 b2 b3, load32_be_toNat b0 b1 b2 b3⟩⟩

/-- Settles O55: of the three things an operation can do to the buffer, keeping it changes no byte. -/
theorem bufferIsWrittenOnlyByBusByteWhileBusy : Obligations.BufferIsWrittenOnlyByBusByteWhileBusy := by
  intro i s t a h hne
  rw [exec_eq_execWith] at h
  cases execWith_bufferChange h with
  | kept buf epoch => exact absurd (bufByte_congr buf epoch a) hne
  | stored b op phase _ buf epoch =>
    have ha : a = s.busCount.toNat := by_contra fun hk => hne (bufByte_of_store_other buf epoch hk)
    exact .inl ⟨b, op, ha, ha ▸ bufByte_of_buf_store buf, phase, fun hinv => hinv.busyOut_at phase⟩
  | forgotten op before after => exact .inr ⟨op, before, after⟩

/-- Settles O57: a buffer kept, stored to inside its capacity or forgotten is canonical. -/
theorem bufferKeepsItsCanonicalForm : Obligations.BufferKeepsItsCanonicalForm := by
  intro i s t hs h
  rw [exec_eq_execWith] at h
  exact (execWith_bufferChange h).memory_wf hs

/-- Settles O58: each stop of the machine over the parameters, at the defaults. -/
theorem stopsNoRunReachesFaultByName : Obligations.StopsNoRunReachesFaultByName :=
  ⟨fun _ _ => execBusByteWith_outside (p := Config.engine),
    fun _ => execCrcValidateWith_outside (p := Config.engine),
    fun _ hg hk hlen => execDeliverWith_error hg (latchedResult_outside hk hlen),
    fun _ hg hk => execDeliverWith_error hg (latchedResult_empty hk)⟩

end Sys2Proof.Machine

namespace Sys2Proof

/-! SUPPORT. The decoder, equation by equation, and the opcode map: what each row covers. -/

/-! ## Operation words -/

/-- A word whose RSV is 0 is the operation word of the operation with its OPC and its ARG (R71). -/
theorem opWord_of_fields {w : Word} {i : Instr} (hr : rsvOf w = 0#16) (ho : opcOf w = i.opc) (ha : argOf w = i.arg) :
    opWord i = w := by
  rw [opWord, ← ho, ← ha, formatO_of_fields hr]

/-- A word is given by its three fields. -/
theorem eq_formatO_iff {w : Word} {arg opc : BitVec 8} :
    w = formatO arg opc ↔ rsvOf w = 0#16 ∧ opcOf w = opc ∧ argOf w = arg := by
  constructor
  · rintro rfl
    exact ⟨rsvOf_formatO arg opc, opcOf_formatO arg opc, argOf_formatO arg opc⟩
  · rintro ⟨hr, rfl, rfl⟩
    exact (formatO_of_fields hr).symm

/-- An operation whose ARG must be 0 is one word, and each such word is well formed (R71, R76). -/
theorem plainOp_some {opc : BitVec 8} {i : Instr} (h : plainOp opc = some i) :
    i.opc = opc ∧ i.arg = 0#8 ∧ i.wellFormed = true ∧ encode i = [opWord i] := by
  unfold plainOp at h
  split at h <;> cases h <;> exact ⟨rfl, rfl, rfl, rfl⟩

/-! ## The decoder, one equation per outcome -/

section Decode

variable {w : Word} {i : Instr}

theorem decode_regRead (hr : rsvOf w = 0#16) (ho : opcOf w = 0x03#8) (rest : List Word) :
    decode (w :: rest) = .ok (.regRead ((argOf w).setWidth 32), rest) := by
  simp [decode, hr, ho]

theorem decode_regWrite (hr : rsvOf w = 0#16) (ho : opcOf w = 0x04#8) (data : Word) (rest : List Word) :
    decode (w :: data :: rest) = .ok (.regWrite ((argOf w).setWidth 32) data, rest) := by
  simp [decode, hr, ho]

theorem decode_busByte (hr : rsvOf w = 0#16) (ho : opcOf w = 0x40#8) (rest : List Word) :
    decode (w :: rest) = .ok (.busByte (argOf w), rest) := by
  simp [decode, hr, ho]

theorem decode_plain (hr : rsvOf w = 0#16) (hi : plainOp (opcOf w) = some i) (ha : argOf w = 0#8) (rest : List Word) :
    decode (w :: rest) = .ok (i, rest) := by
  have hne : ∀ {opc}, plainOp opc = none → opcOf w ≠ opc := fun hn ho => by
    rw [ho, hn] at hi
    cases hi
  simp [decode, hr, hi, ha, hne (opc := 0x03#8) rfl, hne (opc := 0x04#8) rfl, hne (opc := 0x40#8) rfl]

end Decode

/-! ## Round trips -/

/-- The round trip of an operation whose ARG must be 0. -/
theorem decode_encode_plain {i : Instr} (h : plainOp i.opc = some i) (rest : List Word) :
    decode (encode i ++ rest) = .ok (i, rest) := by
  obtain ⟨-, harg, -, hwords⟩ := plainOp_some h
  rw [hwords]
  exact decode_plain (rsvOf_opWord i) (by rw [opcOf_opWord, h]) (by rw [argOf_opWord, harg]) rest

/-- Decoding the words of a well-formed operation gives it back (R71, R74 to R77). -/
theorem decode_encode {i : Instr} (hi : i.wellFormed = true) (rest : List Word) :
    decode (encode i ++ rest) = .ok (i, rest) := by
  cases i with
  | regRead r =>
    have hdec := decode_regRead (rsvOf_opWord (.regRead r)) (opcOf_opWord _) rest
    rwa [argOf_opWord, Instr.arg, setWidth_arg (of_decide_eq_true hi)] at hdec
  | regWrite r data =>
    have hdec := decode_regWrite (rsvOf_opWord (.regWrite r data)) (opcOf_opWord _) data rest
    rwa [argOf_opWord, Instr.arg, setWidth_arg (of_decide_eq_true hi)] at hdec
  | busByte b =>
    have hdec := decode_busByte (rsvOf_opWord (.busByte b)) (opcOf_opWord _) rest
    rwa [argOf_opWord] at hdec
  | bind | unbind | readyLow | readyHigh | edgeSample | take | assertBusy | readBlock | deassertBusy | crcValidate
  | deliver | busError | busEnd => exact decode_encode_plain rfl rest

/-- What decodes is well formed, and its words are the words read (R75 to R77). -/
theorem encode_of_decode {ws : List Word} {i : Instr} {rest : List Word} (h : decode ws = .ok (i, rest)) :
    i.wellFormed = true ∧ ws = encode i ++ rest := by
  cases ws with
  | nil => cases h
  | cons w tail =>
    have harg : argOf w = ((argOf w).setWidth 32).setWidth 8 := by simp
    simp only [decode] at h
    split at h
    · cases h
    next hr =>
    replace hr : rsvOf w = 0#16 := not_not.1 hr
    split at h
    next ho =>
      cases h
      exact ⟨decide_eq_true (arg_fits _), congrArg (· :: _) (opWord_of_fields (i := .regRead _) hr ho harg).symm⟩
    split at h
    next ho =>
      cases tail with
      | nil => cases h
      | cons data tail =>
        cases h
        exact ⟨decide_eq_true (arg_fits _),
          congrArg (· :: _ :: _) (opWord_of_fields (i := .regWrite _ data) hr ho harg).symm⟩
    split at h
    next ho =>
      cases h
      exact ⟨rfl, congrArg (· :: _) (opWord_of_fields (i := .busByte _) hr ho rfl).symm⟩
    split at h
    · cases h
    next hi =>
    obtain ⟨hopc, harg, hwf, hwords⟩ := plainOp_some hi
    split at h
    next ha =>
      cases h
      exact ⟨hwf, by rw [hwords, opWord_of_fields hr hopc.symm (ha.trans harg.symm), List.singleton_append]⟩
    · cases h

/-- The first word read is the operation word of what decodes. -/
theorem eq_opWord_of_decode {w : Word} {tail : List Word} {i : Instr} {rest : List Word}
    (h : decode (w :: tail) = .ok (i, rest)) : w = opWord i := by
  have hwords := (encode_of_decode h).2
  cases i <;> exact (List.cons.inj hwords).1

/-! ## The rows of the opcode map -/

/-- The operation's ARG is an operand: its OPC is none of those whose ARG must be 0 (R75). -/
def Instr.takesArg (i : Instr) : Bool := (plainOp i.opc).isNone

/-- The operation's row of the opcode map: RSV, OPC and an ARG that must be 0 are under the mask (R74). -/
def Instr.row (i : Instr) : OpcodeRow where
  mnemonic := i.mnemonic
  agent := i.agent
  pattern := formatO 0#8 i.opc
  mask := if i.takesArg then 0xFFFF00FF#32 else 0xFFFFFFFF#32

theorem row_mem_opcodeMap (i : Instr) : i.row ∈ opcodeMap := by
  cases i <;> simp [opcodeMap, Instr.row, Instr.takesArg, Instr.mnemonic, Instr.agent, Instr.opc, plainOp, formatO]

/-- One operation for each row of the opcode map, in its order (R74). -/
def rowOperations : List Instr :=
  [.bind, .unbind, .regRead 0#32, .regWrite 0#32 0#32, .readyLow, .readyHigh, .edgeSample, .take, .assertBusy,
    .readBlock, .deassertBusy, .crcValidate, .deliver, .busByte 0#8, .busError, .busEnd]

theorem opcodeMap_eq_map_row : opcodeMap = rowOperations.map Instr.row := by decide

/-- Every row of the opcode map is an operation's (R74). -/
theorem exists_row_eq {row : OpcodeRow} (h : row ∈ opcodeMap) : ∃ i : Instr, i.row = row := by
  rw [opcodeMap_eq_map_row] at h
  obtain ⟨i, -, hi⟩ := List.mem_map.1 h
  exact ⟨i, hi⟩

theorem takesArg_iff_opc (i : Instr) : i.takesArg = true ↔ i.opc = 0x03#8 ∨ i.opc = 0x04#8 ∨ i.opc = 0x40#8 := by
  cases i <;> simp [Instr.takesArg, Instr.opc, plainOp]

theorem plainOp_of_not_takesArg {i : Instr} (h : i.takesArg = false) : plainOp i.opc = some i := by
  cases i with
  | regRead | regWrite | busByte => cases h
  | bind | unbind | readyLow | readyHigh | edgeSample | take | assertBusy | readBlock | deassertBusy | crcValidate
  | deliver | busError | busEnd => rfl

theorem arg_of_not_takesArg {i : Instr} (h : i.takesArg = false) : i.arg = 0#8 := by
  obtain ⟨-, harg, -, -⟩ := plainOp_some (plainOp_of_not_takesArg h)
  exact harg

/-- The mask FFFF00FF leaves RSV and OPC and clears ARG. -/
theorem fields_and_mask (w : Word) :
    rsvOf (w &&& 0xFFFF00FF#32) = rsvOf w ∧ opcOf (w &&& 0xFFFF00FF#32) = opcOf w
      ∧ argOf (w &&& 0xFFFF00FF#32) = 0#8 :=
  ⟨BitVec.extractLsb'_and.trans BitVec.and_allOnes, BitVec.extractLsb'_and.trans BitVec.and_allOnes,
    BitVec.extractLsb'_and.trans BitVec.and_zero⟩

/-- What a row covers: RSV is 0, the OPC is the row's, and ARG is 0 unless it is an operand (R74, R77). -/
theorem row_covers_iff (i : Instr) (w : Word) :
    i.row.covers w = true ↔ rsvOf w = 0#16 ∧ opcOf w = i.opc ∧ (i.takesArg = false → argOf w = 0#8) := by
  obtain ⟨hrsv, hopc, harg⟩ := fields_and_mask w
  cases ht : i.takesArg with
  | true => simp [OpcodeRow.covers, Instr.row, ht, eq_formatO_iff, hrsv, hopc, harg]
  | false =>
    have hall : w &&& 0xFFFFFFFF#32 = w := BitVec.and_allOnes
    simp [OpcodeRow.covers, Instr.row, ht, eq_formatO_iff, hall]

/-- What decodes is covered by its operation's row. -/
theorem row_covers_of_decode {w : Word} {tail : List Word} {i : Instr} {rest : List Word}
    (h : decode (w :: tail) = .ok (i, rest)) : i.row.covers w = true := by
  rw [eq_opWord_of_decode h, row_covers_iff, rsvOf_opWord, opcOf_opWord, argOf_opWord]
  exact ⟨rfl, rfl, arg_of_not_takesArg⟩

/-- A word that a row covers decodes, to an operation of that row; the word after it is DATA if it is needed (R77). -/
theorem decode_of_row_covers {i : Instr} {w : Word} (h : i.row.covers w = true) (data : Word) :
    ∃ j rest, decode [w, data] = .ok (j, rest) ∧ j.row = i.row := by
  obtain ⟨hr, ho, ha⟩ := (row_covers_iff i w).1 h
  cases i with
  | regRead r => exact ⟨_, _, decode_regRead hr ho _, rfl⟩
  | regWrite r d => exact ⟨_, _, decode_regWrite hr ho _ _, rfl⟩
  | busByte b => exact ⟨_, _, decode_busByte hr ho _, rfl⟩
  | bind | unbind | readyLow | readyHigh | edgeSample | take | assertBusy | readBlock | deassertBusy | crcValidate
  | deliver | busError | busEnd => exact ⟨_, _, decode_plain hr (by rw [ho]; rfl) (ha rfl) _, rfl⟩

/-- Two rows that cover one word are one row, since the word decodes to one operation. -/
theorem row_eq_of_covers {i j : Instr} {w : Word} (hi : i.row.covers w = true) (hj : j.row.covers w = true) :
    i.row = j.row := by
  obtain ⟨k, rest, hk, hki⟩ := decode_of_row_covers hi 0#32
  obtain ⟨l, rest', hl, hlj⟩ := decode_of_row_covers hj 0#32
  rw [hk] at hl
  cases hl
  exact hki.symm.trans hlj

/-- A word is INVALID exactly if no row covers it (R77). -/
theorem decode_error_iff (w data : Word) :
    (∃ e, decode [w, data] = .error e) ↔ ∀ i : Instr, i.row.covers w = false := by
  constructor
  · rintro ⟨e, he⟩ i
    refine Bool.eq_false_iff.2 fun hc => ?_
    obtain ⟨j, rest, hj, -⟩ := decode_of_row_covers hc data
    rw [he] at hj
    cases hj
  · intro hnone
    cases hd : decode [w, data] with
    | error e => exact ⟨e, rfl⟩
    | ok r => exact absurd (row_covers_of_decode (i := r.1) hd) (by simp [hnone])

/-! ## The reserved encodings -/

/-- The reserved values of OPC (R78). -/
def ReservedOpc (opc : BitVec 8) : Prop :=
  opc = 0#8 ∨ (0x05 ≤ opc.toNat ∧ opc.toNat ≤ 0x0F) ∨ (0x12 ≤ opc.toNat ∧ opc.toNat ≤ 0x1F)
    ∨ (0x21 ≤ opc.toNat ∧ opc.toNat ≤ 0x2F) ∨ (0x36 ≤ opc.toNat ∧ opc.toNat ≤ 0x3F)
    ∨ (0x43 ≤ opc.toNat ∧ opc.toNat ≤ 0x4F) ∨ 0x50 ≤ opc.toNat

theorem not_reservedOpc_opc (i : Instr) : ¬ ReservedOpc i.opc := by
  cases i <;> simp [ReservedOpc, Instr.opc]

/-- An OPC that no operation has is reserved (R78). -/
theorem reservedOpc_of_forall_ne {opc : BitVec 8} (h : ∀ i : Instr, i.opc ≠ opc) : ReservedOpc opc := by
  have hne : ∀ i ∈ rowOperations, i.opc.toNat ≠ opc.toNat := fun i _ hi => h i (BitVec.eq_of_toNat_eq hi)
  simp only [rowOperations, List.forall_mem_cons, Instr.opc, BitVec.toNat_ofNat, Nat.reducePow, Nat.reduceMod] at hne
  unfold ReservedOpc
  rw [BitVec.toNat_eq, BitVec.toNat_ofNat]
  omega

/-- The words that no row covers are the reserved encodings (R78). -/
theorem uncovered_iff (w : Word) :
    (∀ i : Instr, i.row.covers w = false) ↔
      ReservedOpc (opcOf w) ∨ rsvOf w ≠ 0#16
        ∨ (argOf w ≠ 0#8 ∧ opcOf w ≠ 0x03#8 ∧ opcOf w ≠ 0x04#8 ∧ opcOf w ≠ 0x40#8) := by
  constructor
  · intro huncovered
    by_contra! hvalid
    obtain ⟨hopc, hr, harg⟩ := hvalid
    refine hopc (reservedOpc_of_forall_ne fun i ho => ?_)
    refine Bool.eq_false_iff.1 (huncovered i) ((row_covers_iff i w).2 ⟨hr, ho.symm, fun ht => ?_⟩)
    by_contra ha
    have hoperand : i.takesArg = true := (takesArg_iff_opc i).2 (by rw [ho]; tauto)
    exact Bool.false_ne_true (ht.symm.trans hoperand)
  · intro hreserved i
    refine Bool.eq_false_iff.2 fun hc => ?_
    obtain ⟨hr, ho, hcond⟩ := (row_covers_iff i w).1 hc
    rcases hreserved with hopc | hrsv | ⟨ha, h3, h4, h40⟩
    · exact not_reservedOpc_opc i (ho ▸ hopc)
    · exact hrsv hr
    · rw [ho] at h3 h4 h40
      exact ha (hcond (Bool.eq_false_iff.2 fun ht =>
        ((takesArg_iff_opc i).1 ht).elim h3 fun h => h.elim h4 h40))

/-! ## The statements of 30_encoding.md -/

/-- Settles O1: the round trip, operation by operation. -/
theorem decodeOfEncodeGivesOperationBack : Obligations.DecodeOfEncodeGivesOperationBack :=
  fun _ rest hi => decode_encode hi rest

/-- Settles O2: the converse round trip, along the decoder's branches. -/
theorem encodeOfDecodeGivesWordsBack : Obligations.EncodeOfDecodeGivesWordsBack :=
  fun _ _ _ => encode_of_decode

/-- Settles O3: every row is an operation's, and a word decodes to an operation of the row that covers it. -/
theorem wordDecodesAsTheRowItMatches : Obligations.WordDecodesAsTheRowItMatches := by
  refine ⟨fun row hrow w data hc => ?_, fun w data i rest h => ?_, fun w data hnone => ?_,
    fun w r1 h1 r2 h2 hc1 hc2 => ?_, rfl⟩
  · obtain ⟨i, rfl⟩ := exists_row_eq hrow
    obtain ⟨j, rest, hj, hrow⟩ := decode_of_row_covers hc data
    exact ⟨j, rest, hj, congrArg OpcodeRow.mnemonic hrow, congrArg OpcodeRow.agent hrow⟩
  · exact ⟨i.row, row_mem_opcodeMap i, row_covers_of_decode h, rfl, rfl⟩
  · exact (decode_error_iff w data).2 fun i => hnone i.row (row_mem_opcodeMap i)
  · obtain ⟨i, rfl⟩ := exists_row_eq h1
    obtain ⟨j, rfl⟩ := exists_row_eq h2
    exact row_eq_of_covers hc1 hc2

/-- Settles O4: a word is INVALID exactly if no row covers it, and the words no row covers are those of R78. -/
theorem reservedEncodingsAndOnlyTheyAreInvalid : Obligations.ReservedEncodingsAndOnlyTheyAreInvalid := by
  refine ⟨fun w data => ?_, fun rest => ⟨.reservedOpcode 0#8, rfl⟩⟩
  have hopc : (opcOf w).toNat = w.toNat % 256 := by simp [opcOf]
  have hlist := (decode_error_iff w data).trans (uncovered_iff w)
  simp only [ReservedOpc, hopc, or_assoc] at hlist
  exact hlist

/-- Settles O5: each valid word is its operation's encoding, so it is a case of the round trip; the INVALID one has an
ARG that must be 0. -/
theorem specWordsDecode : Obligations.SpecWordsDecode :=
  ⟨decode_encode (i := .bind) rfl [], decode_encode (i := .regRead 3#32) rfl [],
    decode_encode (i := .regWrite 1#32 1000000#32) rfl [], decode_encode (i := .readyLow) rfl [],
    decode_encode (i := .readyHigh) rfl [], decode_encode (i := .edgeSample) rfl [], decode_encode (i := .take) rfl [],
    decode_encode (i := .busByte 0xDE#8) rfl [], decode_encode (i := .busEnd) rfl [],
    decode_encode (i := .crcValidate) rfl [], rfl⟩

end Sys2Proof

namespace Sys2Proof.Machine

/-! SUPPORT. The control port: taking a command, and its one response. -/

/-! ## Taking a command -/

/-- Words that decode to a host-class operation are a command (R79). -/
theorem portCommand_of_decode {s : State} {i : Instr} {rest : List Word} (hd : decode (portWords s) = .ok (i, rest))
    (ha : i.agent = .host) : portCommand s = some i := by
  simp [portCommand, hd, ha]

theorem stepMove_host {s : State} {i : Instr} (h : portCommand s = some i) :
    stepMove .host s = exec i (dropPort i.wordCount s) := by
  simp only [stepMove, makeMove, h]

/-! ## The response -/

/-- A code fits bits 2:0 of RESP, which is 0 above (R82). -/
theorem code_setWidth_fields (c : RespCode) :
    (c.code.setWidth 32 : Word).extractLsb' 0 3 = c.code ∧ (c.code.setWidth 32 : Word).extractLsb' 3 29 = 0#29 := by
  cases c <;> decide

/-- The command `i` adds one response, with the RDATA of R82. -/
def RespondsOnce (i : Instr) (s t : State) : Prop :=
  ∃ r, t.responses = s.responses ++ [r]
    ∧ (∀ n, i = .regRead n → r.code = .ok → ∃ reg, regOfNumber n = some reg
      ∧ r.data = readControlReg Config.engine s reg)
    ∧ ((∀ n, i ≠ .regRead n) ∨ r.code ≠ .ok → r.data = 0#32)

/-- A reply with RDATA 0 is what R82 asks of a command, unless it is a REG_READ that answers OK. -/
theorem respondsOnce_zero {i : Instr} {s u : State} {event : Response → Event} {code : RespCode}
    (hu : u.responses = s.responses) (hcode : ∀ n, i = .regRead n → code ≠ .ok) :
    RespondsOnce i s (reply event code 0#32 u) :=
  ⟨{ code := code, data := 0#32 }, by rw [reply_responses, hu], fun n hn hok => absurd hok (hcode n hn), fun _ => rfl⟩

theorem respondsOnce_bind {s t : State} (h : execBind s = .next t) : RespondsOnce .bind s t := by
  rcases execBind_next h with ⟨-, rfl⟩ | ⟨-, -, rfl⟩ | ⟨-, -, rfl⟩ <;> exact respondsOnce_zero rfl nofun

theorem respondsOnce_unbind {s t : State} (h : execUnbind s = .next t) : RespondsOnce .unbind s t := by
  rcases execUnbind_next h with ⟨-, rfl⟩ | ⟨-, rfl⟩ | ⟨-, rfl⟩ <;> exact respondsOnce_zero rfl nofun

/-- The one command whose RDATA need not be 0 (R82, R183). -/
theorem respondsOnce_regRead {r : Word} {s t : State} (h : execRegRead r s = .next t) :
    RespondsOnce (.regRead r) s t := by
  rcases execRegRead_next h with ⟨reg, hreg, rfl⟩ | ⟨-, rfl⟩
  · refine ⟨_, reply_responses .., fun n hn _ => ?_, fun hother => ?_⟩
    · cases hn
      exact ⟨reg, hreg, rfl⟩
    · rcases hother with hother | hother
      · exact absurd rfl (hother r)
      · exact absurd rfl hother
  · exact respondsOnce_zero rfl fun _ _ => nofun

/-- A register write changes at most a configuration register, so the responses it leaves are those before (R184). -/
theorem writeControlReg_responses (r v : Word) (s : State) :
    (writeControlReg r v s).2.responses = s.responses := by
  rcases writeControlReg_cases r v s with ⟨-, -, h⟩ | ⟨-, -, h⟩ | ⟨-, -, h⟩ | ⟨-, -, h⟩ <;> rw [h]

theorem respondsOnce_regWrite {r v : Word} {s t : State} (h : execRegWrite r v s = .next t) :
    RespondsOnce (.regWrite r v) s t := by
  cases execRegWrite_next h
  exact respondsOnce_zero (writeControlReg_responses r v s) nofun

/-- Every command that completes responds once (R82, R180). -/
theorem exec_respondsOnce {i : Instr} {s t : State} (ha : i.agent = .host) (h : exec i s = .next t) :
    RespondsOnce i s t := by
  cases i with
  | bind => exact respondsOnce_bind h
  | unbind => exact respondsOnce_unbind h
  | regRead r => exact respondsOnce_regRead h
  | regWrite r v => exact respondsOnce_regWrite h
  | readyLow | readyHigh | edgeSample | take | assertBusy | readBlock | deassertBusy | crcValidate | deliver | busByte
  | busError | busEnd => cases ha

/-! ## The statements of 30_encoding.md on the ports -/

/-- Settles O7: the command at the port takes as many words as its encoding has. -/
theorem hostMoveRunsTheDecodedCommand : Obligations.HostMoveRunsTheDecodedCommand := by
  intro s i rest hm hd ha
  rw [step, hm, stepMove_host (portCommand_of_decode (s := dropMove s) hd ha), length_encode]
  rfl

/-- Settles O43: the fields of RESP, the codes of R81, and the response of each command. -/
theorem everyCommandGetsOneResponse : Obligations.EveryCommandGetsOneResponse := by
  refine ⟨fun r => ?_, ⟨rfl, rfl, rfl, rfl, rfl, rfl⟩, fun _ _ _ => exec_respondsOnce⟩
  obtain ⟨hcode, habove⟩ := code_setWidth_fields r.code
  exact ⟨hcode, habove, rfl⟩

/-- Settles O44: the record of each Transfer Result, written out. -/
theorem resultRecordHasKindAndContents : Obligations.ResultRecordHasKindAndContents :=
  ⟨fun _ => rfl, rfl, fun _ _ => rfl⟩

end Sys2Proof.Machine

namespace Sys2Proof.Machine

/-! SUPPORT. The handshake: what its two operations do, that every other operation leaves BUSY as it is, and what the
pins show of the phase. -/

/-! ## The two operations -/

/-- ASSERT_BUSY whose guard holds, whatever BUSY was (R100). -/
theorem execAssertBusy_of_taken {s : State} (hb : s.bound = true) (hphase : s.phase = .taken) :
    execAssertBusy s = .next { s with
      busyOut := true, phase := .asserted, hist := s.hist ++ [.op 0x00000031#32] } := by
  have hword : opWord .assertBusy = 0x00000031#32 := by decide
  rw [execAssertBusy, guarded_true ((enabled_assertBusy s).2 ⟨hb, hphase⟩), hword]
  rfl

/-- DEASSERT_BUSY after a completed read: the CRC is next (R102). -/
theorem execDeassertBusy_of_readDone {s : State} (hb : s.bound = true) (hphase : s.phase = .readDone) :
    execDeassertBusy s = .next { s with
      busyOut := false, phase := .validate, hist := s.hist ++ [.op 0x00000033#32] } := by
  have hword : opWord .deassertBusy = 0x00000033#32 := by decide
  rw [execDeassertBusy, guarded_true ((enabled_deassertBusy s).2 ⟨hb, .inl hphase⟩), if_pos hphase, hword]
  rfl

/-- DEASSERT_BUSY after a failed read: the bus failure is latched and the CRC is skipped (R102, R173). -/
theorem execDeassertBusy_of_readFailed {s : State} (hb : s.bound = true) (hphase : s.phase = .readFailed) :
    execDeassertBusy s = .next { s with
      busyOut := false, phase := .deliver, resKind := .busError, resExpected := 0#32, resReceived := 0#32
      hist := s.hist ++ [.op 0x00000033#32] } := by
  have hword : opWord .deassertBusy = 0x00000033#32 := by decide
  have hdone : s.phase ≠ .readDone := by simp [hphase]
  rw [execDeassertBusy, guarded_true ((enabled_deassertBusy s).2 ⟨hb, .inr hphase⟩), if_neg hdone, hword]
  rfl

/-- BUSY is bit 3 of STATUS (R32). -/
theorem statusWord_busyOut (s : State) : (statusWord s).getLsbD 3 = s.busyOut := by
  obtain ⟨-, -, -, hbusy, -⟩ := statusWord_flags s
  exact hbusy

/-! ## Who changes BUSY -/

section Busy

variable {p : Params} {s t : State}

/-- ASSERT_BUSY leaves BUSY high, or does not happen. -/
theorem execAssertBusy_busyOut (hx : execAssertBusy s = .next t) : t.busyOut = true ∨ t.busyOut = s.busyOut := by
  rcases execAssertBusy_next hx with ⟨-, rfl⟩ | rfl
  · exact .inl rfl
  · exact .inr rfl

/-- DEASSERT_BUSY leaves BUSY low, or does not happen. -/
theorem execDeassertBusy_busyOut (hx : execDeassertBusy s = .next t) :
    t.busyOut = false ∨ t.busyOut = s.busyOut := by
  rcases execDeassertBusy_next hx with ⟨-, rfl⟩ | ⟨-, rfl⟩ | rfl
  · exact .inl rfl
  · exact .inl rfl
  · exact .inr rfl

/-- An operation of PERIPH, EDGE, WORKER or BUS whose effect is one recorded update of other fields. -/
theorem guarded_busyOut {i : Instr} {u : State} {e : Event} (hx : guarded i s (.next (record e u)) = .next t)
    (hu : u.busyOut = s.busyOut) : t.busyOut = s.busyOut := by
  rcases guarded_next hx with ⟨-, hnext⟩ | ⟨-, rfl⟩
  · cases hnext
    exact hu
  · rfl

/-- BIND writes the 0 that an unbound engine already has (R181, I1). -/
theorem execBindWith_busyOut (h : EngineInvWith p s) (hx : execBindWith p s = .next t) : t.busyOut = s.busyOut := by
  rcases execBindWith_next hx with ⟨-, rfl⟩ | ⟨-, -, rfl⟩ | ⟨hb, -, rfl⟩
  · rfl
  · rfl
  · obtain ⟨-, -, hlow, -⟩ := h.unbound hb
    exact hlow.symm

/-- UNBIND in Idle writes the 0 that is there, and one that has to wait does not touch BUSY (R182, I2). -/
theorem execUnbind_busyOut (h : EngineInvWith p s) (hx : execUnbind s = .next t) : t.busyOut = s.busyOut := by
  rcases execUnbind_next hx with ⟨-, rfl⟩ | ⟨⟨-, -, hphase⟩, rfl⟩ | ⟨-, rfl⟩
  · rfl
  · exact (h.busyOut_at hphase).symm
  · rfl

theorem execRegReadWith_busyOut {r : Word} (hx : execRegReadWith p r s = .next t) : t.busyOut = s.busyOut := by
  rcases execRegReadWith_next hx with ⟨-, -, rfl⟩ | ⟨-, rfl⟩ <;> rfl

theorem execRegWrite_busyOut {r v : Word} (hx : execRegWrite r v s = .next t) : t.busyOut = s.busyOut := by
  cases execRegWrite_next hx
  rcases writeControlReg_cases r v s with ⟨-, -, hw⟩ | ⟨-, -, hw⟩ | ⟨-, -, hw⟩ | ⟨-, -, hw⟩ <;> rw [hw] <;> rfl

theorem execCrcValidateWith_busyOut (hx : execCrcValidateWith p s = .next t) : t.busyOut = s.busyOut := by
  rcases execCrcValidateWith_next hx with ⟨payload, got, -, -, -, rfl⟩ | rfl
  · exact latchVerdict_busyOut ..
  · rfl

/-- DELIVER finds BUSY low, so a session it ends writes the 0 that is there (R175, R182, I2). -/
theorem execDeliverWith_busyOut (h : EngineInvWith p s) (hx : execDeliverWith p s = .next t) :
    t.busyOut = s.busyOut := by
  rcases execDeliverWith_next hx with ⟨r, ⟨-, hphase⟩, -, rfl⟩ | rfl
  · have hlow : s.busyOut = false := h.busyOut_at hphase
    simp [hlow]
  · rfl

theorem execBusByteWith_busyOut {b : Byte} (hx : execBusByteWith p b s = .next t) : t.busyOut = s.busyOut := by
  rcases execBusByteWith_next hx with ⟨-, -, rfl⟩ | rfl <;> rfl

/-- Every operation but the two of the handshake leaves BUSY as it is (R101). -/
theorem execWith_busyOut_of_not_handshake {i : Instr} (h : EngineInvWith p s) (hx : execWith p i s = .next t)
    (hassert : i ≠ .assertBusy) (hdeassert : i ≠ .deassertBusy) : t.busyOut = s.busyOut := by
  cases i with
  | assertBusy => exact absurd rfl hassert
  | deassertBusy => exact absurd rfl hdeassert
  | bind => exact execBindWith_busyOut h hx
  | unbind => exact execUnbind_busyOut h hx
  | regRead r => exact execRegReadWith_busyOut hx
  | regWrite r v => exact execRegWrite_busyOut hx
  | readyLow | readyHigh | edgeSample | take | readBlock | busError | busEnd => exact guarded_busyOut hx rfl
  | crcValidate => exact execCrcValidateWith_busyOut hx
  | deliver => exact execDeliverWith_busyOut h hx
  | busByte b => exact execBusByteWith_busyOut hx

/-- An operation that changes BUSY is ASSERT_BUSY, raising it, or DEASSERT_BUSY, lowering it (R101). -/
theorem execWith_handshake_of_busyOut_ne {i : Instr} (h : EngineInvWith p s) (hx : execWith p i s = .next t)
    (hne : t.busyOut ≠ s.busyOut) :
    (i = .assertBusy ∧ t.busyOut = true) ∨ (i = .deassertBusy ∧ t.busyOut = false) := by
  by_cases hassert : i = .assertBusy
  · subst hassert
    exact .inl ⟨rfl, (execAssertBusy_busyOut hx).resolve_right hne⟩
  · by_cases hdeassert : i = .deassertBusy
    · subst hdeassert
      exact .inr ⟨rfl, (execDeassertBusy_busyOut hx).resolve_right hne⟩
    · exact absurd (execWith_busyOut_of_not_handshake h hx hassert hdeassert) hne

/-! ## The pins in each phase -/

theorem busyPhase_iff (ph : Phase) :
    busyPhase ph = true ↔ ph = .asserted ∨ ph = .reading ∨ ph = .readDone ∨ ph = .readFailed := by
  cases ph <;> simp [busyPhase]

/-- The BUSY pin is high in the four phases of I2 (R104). -/
theorem EngineInvWith.busyPin_iff (h : EngineInvWith p s) :
    busyPin s = true ↔ s.phase = .asserted ∨ s.phase = .reading ∨ s.phase = .readDone ∨ s.phase = .readFailed := by
  rw [busyPin, h.busy, busyPhase_iff]

/-- The CS_N pin is low in P_READING (R114, I3). -/
theorem EngineInvWith.csNPin_low_iff (h : EngineInvWith p s) : csNPin s = false ↔ s.phase = .reading := by
  rw [csNPin, Bool.not_eq_false', h.chipSelect]

/-- In Idle both pins rest (R104, R114). -/
theorem EngineInvWith.pins_of_idle (h : EngineInvWith p s) (hphase : s.phase = .idle) :
    busyPin s = false ∧ csNPin s = true := by
  have hcs : csNPin s ≠ false := mt h.csNPin_low_iff.1 (by simp [hphase])
  exact ⟨h.busyOut_at hphase, Bool.eq_true_of_not_eq_false hcs⟩

end Busy

/-! ## The statements of 41_handshake.md -/

/-- Settles O54: every other operation leaves BUSY as it is, and reset lowers it. -/
theorem onlyTheHandshakeDrivesBusy : Obligations.OnlyTheHandshakeDrivesBusy :=
  ⟨fun i s _ h hx => execWith_handshake_of_busyOut_ne h (exec_eq_execWith i s ▸ hx),
    fun p s ready => hardwareReset_busyOut p ready s⟩

/-- Settles O56: chip-select is asserted in P_READING alone, which is one of the four phases of I2, and an unbound
engine is in Idle. -/
theorem busyBracketContainsChipSelect : Obligations.BusyBracketContainsChipSelect := by
  intro s h
  refine ⟨h.busyPin_iff, fun hcs => ?_, fun hrest => h.pins_of_idle ?_⟩
  · have hreading := h.csNPin_low_iff.1 hcs
    exact ⟨h.busyPin_iff.2 (.inr (.inl hreading)), hreading⟩
  · exact hrest.elim (fun hb => (h.unbound hb).1) id

/-- Settles O19: the state after ASSERT_BUSY, and STATUS in it. -/
theorem assertBusyRaisesBusy : Obligations.AssertBusyRaisesBusy :=
  ⟨by decide, fun s => ⟨enabled_assertBusy s, fun hb hphase =>
    ⟨_, execAssertBusy_of_taken hb hphase, rfl, statusWord_busyOut _, statusWord_phase _⟩⟩⟩

/-- Settles O24: the state after DEASSERT_BUSY on each outcome of the read, and STATUS in it. -/
theorem deassertBusyLowersBusyOnBothOutcomes : Obligations.DeassertBusyLowersBusyOnBothOutcomes :=
  ⟨by decide, fun s => ⟨enabled_deassertBusy s,
    fun hb hphase =>
      ⟨_, execDeassertBusy_of_readDone hb hphase, rfl, statusWord_busyOut _, statusWord_phase _⟩,
    fun hb hphase =>
      ⟨_, execDeassertBusy_of_readFailed hb hphase, rfl, statusWord_busyOut _, statusWord_phase _⟩⟩⟩

end Sys2Proof.Machine

namespace Sys2Proof.Machine

/-! SUPPORT. The bus transfer: what its four operations do when their guards hold, and STATUS and XFER_COUNT after
them. -/

/-! ## The four operations -/

/-- READ_BLOCK whose guard holds, whatever count an earlier transaction left (R110). -/
theorem execReadBlock_of_asserted {s : State} (hb : s.bound = true) (hphase : s.phase = .asserted) :
    execReadBlock s = .next { s with
      csActive := true, busCount := 0#32, phase := .reading, hist := s.hist ++ [.op 0x00000032#32] } := by
  have hword : opWord .readBlock = 0x00000032#32 := by decide
  rw [execReadBlock, guarded_true ((enabled_readBlock s).2 ⟨hb, hphase⟩), hword]
  rfl

/-- BUS_END whose guard holds: the block is complete (R112). -/
theorem execBusEnd_of_full {s : State} (hb : s.bound = true) (hphase : s.phase = .reading)
    (hfull : s.busCount = blockLen s) :
    execBusEnd s = .next { s with
      csActive := false, phase := .readDone, hist := s.hist ++ [.op 0x00000042#32] } := by
  have hword : opWord .busEnd = 0x00000042#32 := by decide
  rw [execBusEnd, guarded_true ((enabled_busEnd s).2 ⟨hb, hphase, hfull⟩), hword]
  rfl

/-- BUS_ERROR whose guard holds, at any count (R113). -/
theorem execBusError_of_reading {s : State} (hb : s.bound = true) (hphase : s.phase = .reading) :
    execBusError s = .next { s with
      csActive := false, phase := .readFailed, hist := s.hist ++ [.op 0x00000041#32] } := by
  have hword : opWord .busError = 0x00000041#32 := by decide
  rw [execBusError, guarded_true ((enabled_busError s).2 ⟨hb, hphase⟩), hword]
  rfl

/-- A count below BLOCK_LEN is an address of the buffer (R111, R181). -/
theorem busCount_lt_bufCapacity {p : Params} {s : State} (hp : p.wellFormed = true)
    (hlt : s.busCount < blockLen s) (hfits : lengthFits p s.cfgPayloadLen = true) :
    s.busCount.toNat < p.bufCapacity := by
  obtain ⟨hblock, hcapacity⟩ := blockLen_toNat hp hfits
  have hcount : s.busCount.toNat < (blockLen s).toNat := hlt
  omega

/-- Chip-select is bit 6 of STATUS (R32). -/
theorem statusWord_csActive (s : State) : (statusWord s).getLsbD 6 = s.csActive := by
  obtain ⟨-, -, -, -, -, -, hcs, -⟩ := statusWord_flags s
  exact hcs

/-! ## The statements of 42_bus_transfer.md on one operation -/

/-- Settles O20: the state after READ_BLOCK, and BLOCK_LEN without a wrap. -/
theorem readBlockStartsTheTransaction : Obligations.ReadBlockStartsTheTransaction := by
  refine ⟨by decide, fun s => ⟨enabled_readBlock s, fun hb hphase => ?_, fun hfits => ?_⟩⟩
  · exact ⟨_, execReadBlock_of_asserted hb hphase, rfl, statusWord_csActive _, statusWord_phase _, rfl⟩
  · obtain ⟨hblock, hcapacity⟩ := blockLen_toNat engine_wellFormed hfits
    omega

/-- Settles O21: the address is inside the buffer, so the byte is stored there and nowhere else. -/
theorem busByteStoresOneByte : Obligations.BusByteStoresOneByte := by
  refine ⟨fun _ => rfl, fun b s => ⟨enabled_busByte b s, fun hb hphase hlt hfits => ?_⟩⟩
  have hin := busCount_lt_bufCapacity engine_wellFormed hlt hfits
  have hnext : (s.busCount + 1#32).toNat = s.busCount.toNat + 1 := by bv_omega
  exact ⟨_, execBusByteWith_inside ((enabled_busByte b s).2 ⟨hb, hphase, hlt⟩) hin, rfl, bufByte_of_buf_store rfl,
    fun a ha => bufByte_of_store_other rfl rfl ha, hnext, rfl⟩

/-- Settles O22: the state after BUS_END; the guard of BUS_ERROR does not look at the count. -/
theorem busEndCompletesTheTransaction : Obligations.BusEndCompletesTheTransaction :=
  ⟨by decide, fun s => ⟨enabled_busEnd s, fun hb hphase hfull =>
    ⟨(enabled_busError s).2 ⟨hb, hphase⟩, _, execBusEnd_of_full hb hphase hfull, rfl, statusWord_csActive _,
      statusWord_phase _⟩⟩⟩

/-- Settles O23: the state after BUS_ERROR, whose XFER_COUNT is the count before it. -/
theorem busErrorFailsTheTransaction : Obligations.BusErrorFailsTheTransaction :=
  ⟨by decide, fun s => ⟨enabled_busError s, fun hb hphase =>
    ⟨_, execBusError_of_reading hb hphase, rfl, statusWord_csActive _, statusWord_phase _, rfl⟩⟩⟩

end Sys2Proof.Machine

namespace Sys2Proof.Machine

/-! SUPPORT. Progress: an attempt always has a next step, each of its steps shortens it, nothing else touches it; and
what weak fairness makes of that in an infinite run. -/

/-! ## The next step of an attempt -/

/-- An attempt belongs to a session (I1). -/
theorem EngineInvWith.bound_of_attempt {p : Params} {s : State} (h : EngineInvWith p s) (hphase : s.phase ≠ .idle) :
    s.bound = true := by
  by_contra hb
  exact hphase (h.unbound (by simpa using hb)).1

/-- A notification belongs to a session (I1). -/
theorem EngineInvWith.bound_of_pending {p : Params} {s : State} (h : EngineInvWith p s) (hpending : s.pending = true) :
    s.bound = true := by
  by_contra hb
  obtain ⟨-, hclear, -⟩ := h.unbound (by simpa using hb)
  simp [hclear] at hpending

/-- A step that is enabled in a phase of the attempt; in P_READING the one that is enabled at any count. -/
def phaseStep : Phase → Instr
  | .idle => .take
  | .taken => .assertBusy
  | .asserted => .readBlock
  | .reading => .busError
  | .readDone | .readFailed => .deassertBusy
  | .validate => .crcValidate
  | .deliver => .deliver

/-- The agent that the attempt waits for in a phase: BUS in P_READING, WORKER in every other one (R116). -/
def phaseAgent (ph : Phase) : Agent := if ph = .reading then .bus else .worker

theorem phaseStep_agent (ph : Phase) : (phaseStep ph).agent = phaseAgent ph := by cases ph <;> rfl

theorem phaseAgent_worker_or_bus (ph : Phase) : phaseAgent ph = .worker ∨ phaseAgent ph = .bus := by
  cases ph <;> simp [phaseAgent]

theorem enabled_phaseStep {s : State} (hb : s.bound = true) (hphase : s.phase ≠ .idle) :
    enabled (phaseStep s.phase) s = true := by
  cases h : s.phase <;> simp_all [phaseStep]

theorem agentEnabled_phaseAgent {p : Params} {s : State} (h : EngineInvWith p s) (hphase : s.phase ≠ .idle) :
    agentEnabled (phaseAgent s.phase) s :=
  ⟨phaseStep s.phase, phaseStep_agent _, enabled_phaseStep (h.bound_of_attempt hphase) hphase⟩

/-- Settles O32: the step of the phase. -/
theorem attemptIsNeverStuck : Obligations.AttemptIsNeverStuck := by
  intro s h hphase
  obtain ⟨i, hagent, hg⟩ := agentEnabled_phaseAgent h hphase
  refine ⟨i, hg, ?_⟩
  rw [hagent, phaseAgent]
  split <;> rfl

/-! ## The steps of WORKER and BUS -/

/-- From `s` to `t` an attempt in progress is delivered, or goes on with fewer steps left (R163). -/
inductive Advances (s t : State) : Prop where
  | delivered (r : TransferResult) (before : s.phase = .deliver) (after : t.phase = .idle) (out : t.out = s.out ++ [r])
  | shortened (attempt : t.phase ≠ .idle) (budget : attemptBudget t < attemptBudget s)

/-- A step that is recorded leaves another state. -/
theorem RecordsStep.ne {i : Instr} {s t : State} (h : RecordsStep i s t) : t ≠ s := by
  obtain ⟨e, hhist, -⟩ := h
  rintro rfl
  simp at hhist

section Steps

variable {p : Params} {i : Instr} {s t : State}

/-- Every step of WORKER and BUS that happens during an attempt advances it (R163). -/
theorem execWith_advances (hg : enabled i s = true) (ha : i.agent = .worker ∨ i.agent = .bus)
    (hphase : s.phase ≠ .idle) (hx : execWith p i s = .next t) : Advances s t := by
  have hne : t ≠ s := (execWith_recordsStep hg hx).ne
  cases i with
  | bind | unbind | regRead | regWrite | readyLow | readyHigh | edgeSample => simp [Instr.agent] at ha
  | take =>
    obtain ⟨-, hidle, -⟩ := (enabled_take s).1 hg
    exact absurd hidle hphase
  | assertBusy =>
    obtain ⟨⟨-, htaken⟩, rfl⟩ := (execAssertBusy_next hx).resolve_right hne
    exact .shortened nofun (by simp [attemptBudget, blockLen, htaken])
  | readBlock =>
    obtain ⟨⟨-, hasserted⟩, rfl⟩ := (execReadBlock_next hx).resolve_right hne
    exact .shortened nofun (by simp [attemptBudget, blockLen, hasserted])
  | busByte b =>
    obtain ⟨⟨-, hreading, hlt⟩, -, rfl⟩ := (execBusByteWith_next hx).resolve_right hne
    refine .shortened (by simp [hreading]) ?_
    have hleft : (blockLen s).toNat - (s.busCount + 1#32).toNat < (blockLen s).toNat - s.busCount.toNat := by
      bv_omega
    simpa [attemptBudget, blockLen, hreading] using hleft
  | busError =>
    obtain ⟨⟨-, hreading⟩, rfl⟩ := (execBusError_next hx).resolve_right hne
    exact .shortened nofun (by simp [attemptBudget, hreading])
  | busEnd =>
    obtain ⟨⟨-, hreading, -⟩, rfl⟩ := (execBusEnd_next hx).resolve_right hne
    exact .shortened nofun (by simp [attemptBudget, hreading])
  | deassertBusy =>
    rcases execDeassertBusy_next hx with ⟨⟨-, hdone⟩, rfl⟩ | ⟨⟨-, hfailed⟩, rfl⟩ | rfl
    · exact .shortened nofun (by simp [attemptBudget, hdone])
    · exact .shortened nofun (by simp [attemptBudget, hfailed])
    · exact absurd rfl hne
  | crcValidate =>
    obtain ⟨_, _, ⟨-, hvalidate⟩, -, -, rfl⟩ := (execCrcValidateWith_next hx).resolve_right hne
    exact .shortened nofun (by simp [attemptBudget, hvalidate])
  | deliver =>
    obtain ⟨r, ⟨-, hdeliver⟩, -, rfl⟩ := (execDeliverWith_next hx).resolve_right hne
    exact .delivered r hdeliver (by simp) (by simp)

/-- From `s` to `t` a notification is taken (R156). -/
def Takes (s t : State) : Prop := t.phase = .taken ∧ t.hist = s.hist ++ [.op 0x00000030#32]

/-- In Idle the one step of WORKER and BUS is TAKE (R159). -/
theorem execWith_takes (hg : enabled i s = true) (ha : i.agent = .worker ∨ i.agent = .bus)
    (hidle : s.phase = .idle) (hx : execWith p i s = .next t) : Takes s t := by
  cases i with
  | bind | unbind | regRead | regWrite | readyLow | readyHigh | edgeSample => simp [Instr.agent] at ha
  | take =>
    have hword : opWord .take = 0x00000030#32 := by decide
    cases guarded_next_of_enabled hg hx
    exact ⟨rfl, by rw [record_hist, hword]; rfl⟩
  | assertBusy | readBlock | deassertBusy | crcValidate | deliver | busByte | busError | busEnd => simp [hidle] at hg

/-! ## The steps of the others -/

/-- From `s` to `t` the attempt stands where it stood. -/
structure KeepsAttempt (s t : State) : Prop where
  phase : t.phase = s.phase
  count : t.busCount = s.busCount
  length : t.cfgPayloadLen = s.cfgPayloadLen

theorem KeepsAttempt.budget (h : KeepsAttempt s t) : attemptBudget t = attemptBudget s := by
  simp only [attemptBudget, blockLen, h.phase, h.count, h.length]

/-- In a session the commands, READY and the sampler leave the attempt where it stands (R160), and none but UNBIND drops
a notification (R24). -/
theorem execWith_keepsAttempt (hb : s.bound = true) (hworker : i.agent ≠ .worker) (hbus : i.agent ≠ .bus)
    (hx : execWith p i s = .next t) :
    KeepsAttempt s t ∧ (i ≠ .unbind → s.pending = true → t.pending = true) := by
  cases i with
  | take | assertBusy | readBlock | deassertBusy | crcValidate | deliver => exact absurd rfl hworker
  | busByte | busError | busEnd => exact absurd rfl hbus
  | bind =>
    rcases execBindWith_next hx with ⟨-, rfl⟩ | ⟨hunbound, -⟩ | ⟨hunbound, -⟩
    · exact ⟨⟨rfl, rfl, rfl⟩, fun _ => id⟩
    · simp [hb] at hunbound
    · simp [hb] at hunbound
  | unbind =>
    rcases execUnbind_next hx with ⟨-, rfl⟩ | ⟨-, rfl⟩ | ⟨-, rfl⟩ <;> exact ⟨⟨rfl, rfl, rfl⟩, fun h => absurd rfl h⟩
  | regRead r =>
    rcases execRegReadWith_next hx with ⟨-, -, rfl⟩ | ⟨-, rfl⟩ <;> exact ⟨⟨rfl, rfl, rfl⟩, fun _ => id⟩
  | regWrite r v =>
    have hkept : (writeControlReg r v s).2 = s := by
      rcases writeControlReg_cases r v s with ⟨hunbound, -⟩ | ⟨hunbound, -⟩ | ⟨-, -, hw⟩ | ⟨-, -, hw⟩
      · simp [hb] at hunbound
      · simp [hb] at hunbound
      · rw [hw]
      · rw [hw]
    cases execRegWrite_next hx
    rw [hkept]
    exact ⟨⟨rfl, rfl, rfl⟩, fun _ => id⟩
  | readyLow => rcases execReadyLow_next hx with ⟨-, rfl⟩ | rfl <;> exact ⟨⟨rfl, rfl, rfl⟩, fun _ => id⟩
  | readyHigh => rcases execReadyHigh_next hx with ⟨-, rfl⟩ | rfl <;> exact ⟨⟨rfl, rfl, rfl⟩, fun _ => id⟩
  | edgeSample =>
    rcases execEdgeSample_next hx with ⟨-, rfl⟩ | rfl
    · exact ⟨⟨rfl, rfl, rfl⟩, fun _ hpending => by simp [hpending]⟩
    · exact ⟨⟨rfl, rfl, rfl⟩, fun _ => id⟩

end Steps

/-! ## Moves -/

section Moves

variable {m : Move} {s t : State}

/-- Any move keeps the invariants: it is the step of an engine with that move lined up. -/
theorem stepMove_keeps (h : EngineInv s) (hx : stepMove m s = .next t) : EngineInv t := by
  have hlined : EngineInv { s with moves := s.moves.push [m] } := engineInv_inputs h _ _ _
  have hstep : step { s with moves := s.moves.push [m] } = .next t := hx
  exact stepWith_keeps hlined (step_eq_stepWith _ ▸ hstep)

/-- An agent's move executes an enabled step of the agent. -/
theorem exec_of_agentMoves {a : Agent} (hm : agentMoves a m s) (hx : stepMove m s = .next t) :
    ∃ i, i.agent = a ∧ enabled i s = true ∧ execWith Config.engine i s = .next t := by
  obtain ⟨w, i, rfl, hw, ha, hg⟩ := hm
  rw [stepMove_agent hw, exec_eq_execWith] at hx
  exact ⟨i, ha, hg, hx⟩

/-- In a session a move other than reset leaves the attempt where it stands, and a notification unless it is an UNBIND,
or it is an enabled step of WORKER or BUS. -/
theorem stepMove_keepsAttempt_or_moves (hb : s.bound = true) (hreset : ∀ ready, m ≠ .hardwareReset ready)
    (hx : stepMove m s = .next t) :
    (KeepsAttempt s t
      ∧ ((m = .host → portCommand s ≠ some .unbind) → s.pending = true → t.pending = true))
    ∨ ∃ a, (a = .worker ∨ a = .bus) ∧ agentMoves a m s := by
  rcases stepMove_next hx with ⟨i, rfl, hi, hexec⟩ | ⟨-, -, rfl⟩ | ⟨w, i, rfl, hi, hexec⟩ | ⟨-, -, -, rfl⟩ |
    ⟨ready, hr, -⟩
  · left
    obtain ⟨ha, -⟩ := portCommand_some hi
    rw [exec_eq_execWith] at hexec
    obtain ⟨hkeeps, hpending⟩ :=
      execWith_keepsAttempt (s := dropPort i.wordCount s) hb (by simp [ha]) (by simp [ha]) hexec
    refine ⟨⟨hkeeps.phase, hkeeps.count, hkeeps.length⟩, fun hno => hpending ?_⟩
    rintro rfl
    exact hno rfl hi
  · exact .inl ⟨⟨rfl, rfl, rfl⟩, fun _ => id⟩
  · rw [exec_eq_execWith] at hexec
    cases hg : enabled i s with
    | false =>
      rw [execWith_of_disabled _ hg] at hexec
      cases hexec
      exact .inl ⟨⟨rfl, rfl, rfl⟩, fun _ => id⟩
    | true =>
      by_cases ha : i.agent = .worker ∨ i.agent = .bus
      · exact .inr ⟨i.agent, ha, w, i, rfl, hi, rfl, hg⟩
      · left
        obtain ⟨hworker, hbus⟩ := not_or.1 ha
        obtain ⟨hhost, -⟩ := agentStep_some hi
        obtain ⟨hkeeps, hpending⟩ := execWith_keepsAttempt hb hworker hbus hexec
        exact ⟨hkeeps, fun _ => hpending fun hu => hhost (hu ▸ rfl)⟩
  · exact .inl ⟨⟨rfl, rfl, rfl⟩, fun _ => id⟩
  · exact absurd hr (hreset ready)

end Moves

/-! ## Fair runs -/

section Runs

variable {sched : Nat → Move} {run : Nat → State} {n : Nat}

/-- Where `P` holds until `Q` happens, an agent with an enabled step wherever `P` holds, each of whose steps makes `Q`
happen, makes it happen if it is weakly fair (D2). -/
theorem exists_of_weaklyFair {a : Agent} {P : State → Prop} {Q : State → State → Prop}
    (hfair : weaklyFair a sched run) (hstart : P (run n)) (henabled : ∀ s, P s → agentEnabled a s)
    (hstep : ∀ m, n ≤ m → P (run m) → Q (run m) (run (m + 1)) ∨ P (run (m + 1)))
    (hmoves : ∀ m, n ≤ m → P (run m) → agentMoves a (sched m) (run m) → Q (run m) (run (m + 1))) :
    ∃ m, n ≤ m ∧ P (run m) ∧ Q (run m) (run (m + 1)) := by
  by_contra hnever
  have hkept : ∀ m, n ≤ m → P (run m) := by
    intro m hm
    induction m, hm using Nat.le_induction with
    | base => exact hstart
    | succ k hk ih => exact (hstep k hk ih).resolve_left fun hq => hnever ⟨k, hk, ih, hq⟩
  obtain ⟨m, hm, hmove⟩ := hfair n fun m hm => henabled _ (hkept m hm)
  exact hnever ⟨m, hm, hkept m hm, hmoves m hm (hkept m hm) hmove⟩

/-- An attempt that stands in a phase with so many steps left. -/
def StandsAt (ph : Phase) (budget : Nat) (s : State) : Prop :=
  EngineInv s ∧ s.phase = ph ∧ attemptBudget s = budget

/-- A notification waits in Idle. -/
def Waits (s : State) : Prop := EngineInv s ∧ s.phase = .idle ∧ s.pending = true

/-- In a fair run an attempt in progress advances, from where it stands (R163). -/
theorem exists_advances (hrun : isRun sched run) (hreset : ∀ m ready, n ≤ m → sched m ≠ .hardwareReset ready)
    (hworker : weaklyFair .worker sched run) (hbus : weaklyFair .bus sched run) (hinv : EngineInv (run n))
    (hphase : (run n).phase ≠ .idle) :
    ∃ m, n ≤ m ∧ StandsAt (run n).phase (attemptBudget (run n)) (run m) ∧ Advances (run m) (run (m + 1)) := by
  have hfair : weaklyFair (phaseAgent (run n).phase) sched run := by
    rcases phaseAgent_worker_or_bus (run n).phase with h | h <;> rw [h] <;> assumption
  have hadvance : ∀ m a, (a = .worker ∨ a = .bus) → (run m).phase = (run n).phase → agentMoves a (sched m) (run m) →
      Advances (run m) (run (m + 1)) := by
    intro m a ha hsame hmove
    obtain ⟨i, rfl, hg, hx⟩ := exec_of_agentMoves hmove (hrun m)
    exact execWith_advances hg ha (hsame ▸ hphase) hx
  refine exists_of_weaklyFair hfair ⟨hinv, rfl, rfl⟩ ?_ ?_ ?_
  · rintro s ⟨h, hsame, -⟩
    exact hsame ▸ agentEnabled_phaseAgent h (hsame ▸ hphase)
  · rintro m hm ⟨h, hsame, hbudget⟩
    rcases stepMove_keepsAttempt_or_moves (h.bound_of_attempt (hsame ▸ hphase)) (hreset m · hm) (hrun m) with
      ⟨hkeeps, -⟩ | ⟨a, ha, hmove⟩
    · exact .inr ⟨stepMove_keeps h (hrun m), hkeeps.phase.trans hsame, hkeeps.budget.trans hbudget⟩
    · exact .inl (hadvance m a ha hsame hmove)
  · rintro m - ⟨-, hsame, -⟩
    exact hadvance m _ (phaseAgent_worker_or_bus _) hsame

/-- In a fair run an attempt in progress is delivered: by induction on the steps it has left (R163). -/
theorem exists_delivered (hrun : isRun sched run) (hreset : ∀ m ready, n ≤ m → sched m ≠ .hardwareReset ready)
    (hworker : weaklyFair .worker sched run) (hbus : weaklyFair .bus sched run) (hinv : EngineInv (run n))
    (hphase : (run n).phase ≠ .idle) :
    ∃ m, n ≤ m ∧ (run m).phase = .deliver ∧ (run (m + 1)).phase = .idle
      ∧ ∃ r, (run (m + 1)).out = (run m).out ++ [r] := by
  induction hleft : attemptBudget (run n) using Nat.strong_induction_on generalizing n with
  | _ left ih =>
    obtain ⟨m, hm, ⟨h, -, hbudget⟩, hadvance⟩ := exists_advances hrun hreset hworker hbus hinv hphase
    cases hadvance with
    | delivered r before after out => exact ⟨m, hm, before, after, r, out⟩
    | shortened attempt budget =>
      obtain ⟨k, hk, hdelivered⟩ := ih _ (by omega) (n := m + 1) (fun k ready hk => hreset k ready (by omega))
        (stepMove_keeps h (hrun m)) attempt rfl
      exact ⟨k, by omega, hdelivered⟩

/-- In a run that is fair to WORKER a notification in Idle is taken, if no UNBIND drops it (R163, R209). -/
theorem exists_takes (hrun : isRun sched run) (hreset : ∀ m ready, n ≤ m → sched m ≠ .hardwareReset ready)
    (hunbind : ∀ m, n ≤ m → sched m = .host → portCommand (run m) ≠ some .unbind)
    (hworker : weaklyFair .worker sched run) (hwaits : Waits (run n)) :
    ∃ m, n ≤ m ∧ Waits (run m) ∧ Takes (run m) (run (m + 1)) := by
  have htake : ∀ m a, (a = .worker ∨ a = .bus) → Waits (run m) → agentMoves a (sched m) (run m) →
      Takes (run m) (run (m + 1)) := by
    rintro m a ha ⟨-, hidle, -⟩ hmove
    obtain ⟨i, rfl, hg, hx⟩ := exec_of_agentMoves hmove (hrun m)
    exact execWith_takes hg ha hidle hx
  refine exists_of_weaklyFair hworker hwaits ?_ ?_ ?_
  · rintro s ⟨h, hidle, hpending⟩
    exact ⟨.take, rfl, (enabled_take s).2 ⟨h.bound_of_pending hpending, hidle, hpending⟩⟩
  · rintro m hm ⟨h, hidle, hpending⟩
    rcases stepMove_keepsAttempt_or_moves (h.bound_of_pending hpending) (hreset m · hm) (hrun m) with
      ⟨hkeeps, hstill⟩ | ⟨a, ha, hmove⟩
    · exact .inr ⟨stepMove_keeps h (hrun m), hkeeps.phase.trans hidle, hstill (hunbind m hm) hpending⟩
    · exact .inl (htake m a ha ⟨h, hidle, hpending⟩ hmove)
  · exact fun m _ => htake m .worker (.inl rfl)

end Runs

/-- Settles O33: the attempt by induction on the steps it has left, the notification by one use of fairness. -/
theorem fairRunDeliversEveryAttempt : Obligations.FairRunDeliversEveryAttempt := by
  constructor
  · intro sched run n hrun hinv hreset hworker hbus hphase
    exact exists_delivered hrun hreset hworker hbus hinv hphase
  · intro sched run n hrun hinv hreset hunbind hworker hidle hpending
    obtain ⟨m, hm, ⟨-, hwaiting, -⟩, htaken, hhist⟩ :=
      exists_takes hrun hreset hunbind hworker ⟨hinv, hidle, hpending⟩
    exact ⟨m, hm, hwaiting, htaken, hhist⟩

end Sys2Proof.Machine

namespace Sys2Proof.Machine

/-! SUPPORT. The CRC Validator: the laws of the CRC, the block as the engine reads it back, and what CRC_VALIDATE does
to it. -/

/-! ## The laws of the CRC -/

/-- A register whose top bit is clear is only shifted (R130). -/
theorem crcBit_of_top_clear {c : Word} (p : Params) (h : c.getLsbD 31 = false) : crcBit p c = c <<< 1 :=
  if_neg (by rw [h]; exact Bool.false_ne_true)

/-- While the bits that reach the top are clear the polynomial never enters (R130). -/
theorem crcBits_of_top_clear (p : Params) (n : Nat) (c : Word) (h : ∀ i, 32 - n ≤ i → c.getLsbD i = false) :
    crcBits p n c = c <<< n := by
  induction n generalizing c with
  | zero => simp [crcBits]
  | succ n ih =>
    have hshifted : ∀ i, 32 - n ≤ i → (c <<< 1).getLsbD i = false := fun i hi => by
      rw [BitVec.getLsbD_shiftLeft, h (i - 1) (by omega), Bool.and_false]
    rw [crcBits, crcBit_of_top_clear p (h 31 (by omega)), ih _ hshifted, ← BitVec.shiftLeft_add, Nat.add_comm]

/-- The register's own top byte cancels, so that the other three move up (R130). -/
theorem crcByte_own_top_byte (p : Params) (c : Word) : crcByte p c (c.extractLsb' 24 8) = c <<< 8 := by
  have htop : ∀ i, 24 ≤ i → (c ^^^ ((c.extractLsb' 24 8).setWidth 32 <<< 24)).getLsbD i = false := fun i hi => by
    have hadd : 24 + (i - 24) = i := by omega
    by_cases hlt : i < 32
    · simp [hadd, hlt, show ¬ i < 24 by omega, show i - 24 < 8 by omega]
    · exact BitVec.getLsbD_of_ge _ _ (by omega)
  have hlow : (c ^^^ ((c.extractLsb' 24 8).setWidth 32 <<< 24)) <<< 8 = c <<< 8 := by
    rw [BitVec.shiftLeft_xor_distrib, ← BitVec.shiftLeft_add]
    simp
  rw [crcByte, crcBits_of_top_clear p 8 _ htop, hlow]

/-- The byte that a shift brings to the top. -/
theorem extractLsb'_top_shiftLeft (c : Word) {k : Nat} (hk : k ≤ 24) :
    (c <<< k).extractLsb' 24 8 = c.extractLsb' (24 - k) 8 := by
  ext i hi
  have hsource : 24 + i - k = 24 - k + i := by omega
  rw [BitVec.getElem_extractLsb', BitVec.getElem_extractLsb', BitVec.getLsbD_shiftLeft, hsource]
  simp [show 24 + i < 32 by omega, show ¬ 24 + i < k by omega]

/-- Feeding the register its own bytes, most significant first, clears it (R136). -/
theorem crcRegister_be4_self (p : Params) (c : Word) : crcRegister p c (be4 c) = 0#32 := by
  have hbytes : be4 c = [c.extractLsb' 24 8, (c <<< 8).extractLsb' 24 8, (c <<< 8 <<< 8).extractLsb' 24 8,
      (c <<< 8 <<< 8 <<< 8).extractLsb' 24 8] := by
    simp [be4, ← BitVec.shiftLeft_add, extractLsb'_top_shiftLeft]
  rw [hbytes]
  simp [crcByte_own_top_byte, ← BitVec.shiftLeft_add]

/-- Without final XOR the CRC is the register (R130). -/
theorem crc32be_of_no_xorout {p : Params} (h : p.crcXorout = 0#32) (d : List Byte) :
    crc32be p d = crcRegister p p.crcInit d := by
  rw [crc32be, h, BitVec.xor_zero]

/-- Settles O37: the residue from the register that clears itself, the check value by evaluation. -/
theorem crcLawsAndCheckValue : Obligations.CrcLawsAndCheckValue := by
  refine ⟨fun p h => ?_, fun p d h => ?_, by decide +kernel⟩
  · rw [crc32be_of_no_xorout h, crcRegister_nil]
  · rw [crc32be_of_no_xorout h, crc32be_of_no_xorout h, crcRegister_append, crcRegister_be4_self]

/-! ## The block in the buffer -/

/-- The block of BLOCK_LEN bytes that the engine reads back from BUF (R51). -/
def bufBlock (s : State) : List Byte := (List.range (payloadLen s + 4)).map (bufByte s)

/-- The payload that CRC_VALIDATE checks is the block without its last four bytes (R132). -/
theorem take_bufBlock (s : State) :
    (bufBlock s).take (payloadLen s) = (List.range (payloadLen s)).map (bufByte s) := by
  rw [bufBlock, ← List.map_take, List.take_range, Nat.min_eq_left (by omega)]

/-- The checksum field that CRC_VALIDATE compares is the block's last four bytes (R131). -/
theorem fieldOfBlock_bufBlock (p : Params) (s : State) :
    fieldOfBlock p (payloadLen s) (bufBlock s) = load32 p.chkByteOrder (bufByte s (payloadLen s))
      (bufByte s (payloadLen s + 1)) (bufByte s (payloadLen s + 2)) (bufByte s (payloadLen s + 3)) := by
  simp [fieldOfBlock, bufBlock]

theorem bufBlock_congr {s t : State} (hlen : t.cfgPayloadLen = s.cfgPayloadLen)
    (h : ∀ a, a < payloadLen s + 4 → bufByte t a = bufByte s a) : bufBlock t = bufBlock s := by
  have hpayload : payloadLen t = payloadLen s := by rw [payloadLen, hlen, payloadLen]
  rw [bufBlock, bufBlock, hpayload]
  exact List.map_congr_left fun a ha => h a (List.mem_range.1 ha)

/-- A payload length that BIND accepts leaves room for the checksum field (R181). -/
theorem lengthFits_iff {p : Params} {s : State} :
    lengthFits p s.cfgPayloadLen = true ↔ payloadLen s + 4 ≤ p.bufCapacity :=
  decide_eq_true_iff

theorem memRead_payload {p : Params} {s : State} (h : lengthFits p s.cfgPayloadLen = true) :
    memRead p s 0 (payloadLen s) = some ((bufBlock s).take (payloadLen s)) := by
  have hroom := lengthFits_iff.1 h
  rw [memRead_eq s (by omega), take_bufBlock]
  simp

theorem loadField_block {p : Params} {s : State} (h : lengthFits p s.cfgPayloadLen = true) :
    loadField p s (payloadLen s) = some (fieldOfBlock p (payloadLen s) (bufBlock s)) := by
  rw [loadField_eq s (lengthFits_iff.1 h), fieldOfBlock_bufBlock]

/-! ## The verdict -/

/-- What the verdict latches depends on the payload and the field alone (R135). -/
theorem latchVerdict_resKind (p : Params) (d : List Byte) (w : Word) (s : State) :
    (latchVerdict p d w s).resKind = if crc32be p d = w then .ok else .mismatch := by
  unfold latchVerdict; split <;> rfl

theorem latchVerdict_resExpected (p : Params) (d : List Byte) (w : Word) (s : State) :
    (latchVerdict p d w s).resExpected = if crc32be p d = w then 0#32 else crc32be p d := by
  unfold latchVerdict; split <;> rfl

theorem latchVerdict_resReceived (p : Params) (d : List Byte) (w : Word) (s : State) :
    (latchVerdict p d w s).resReceived = if crc32be p d = w then 0#32 else w := by
  unfold latchVerdict; split <;> rfl

/-- The state after CRC_VALIDATE: the verdict on the block in the buffer is latched (R132). -/
def blockValidated (p : Params) (s : State) : State :=
  { latchVerdict p ((bufBlock s).take (payloadLen s)) (fieldOfBlock p (payloadLen s) (bufBlock s)) s with
    phase := .deliver, hist := s.hist ++ [.op 0x00000034#32] }

/-- CRC_VALIDATE whose guard holds, of a block that fits the buffer (R132). -/
theorem execCrcValidateWith_inside {p : Params} {s : State} (hg : enabled .crcValidate s = true)
    (h : lengthFits p s.cfgPayloadLen = true) : execCrcValidateWith p s = .next (blockValidated p s) := by
  have hword : opWord .crcValidate = 0x00000034#32 := by decide
  rw [execCrcValidateWith, guarded_true hg, validateBlock, memRead_payload h, loadField_block h, hword,
    blockValidated, ← latchVerdict_hist p ((bufBlock s).take (payloadLen s))
      (fieldOfBlock p (payloadLen s) (bufBlock s)) s]
  rfl

/-- On equality the verdict is OK with both values 0 (R132). -/
theorem blockValidated_of_eq {p : Params} {s : State}
    (h : crc32be p ((bufBlock s).take (payloadLen s)) = fieldOfBlock p (payloadLen s) (bufBlock s)) :
    blockValidated p s = { s with
      resKind := .ok, resExpected := 0#32, resReceived := 0#32, phase := .deliver
      hist := s.hist ++ [.op 0x00000034#32] } := by
  rw [blockValidated, latchVerdict, if_pos h]
  rfl

/-- Otherwise it is MISMATCH with the CRC computed and the field received (R132, R133). -/
theorem blockValidated_of_ne {p : Params} {s : State}
    (h : crc32be p ((bufBlock s).take (payloadLen s)) ≠ fieldOfBlock p (payloadLen s) (bufBlock s)) :
    blockValidated p s = { s with
      resKind := .mismatch, resExpected := crc32be p ((bufBlock s).take (payloadLen s))
      resReceived := fieldOfBlock p (payloadLen s) (bufBlock s), phase := .deliver
      hist := s.hist ++ [.op 0x00000034#32] } := by
  rw [blockValidated, latchVerdict, if_neg h]
  rfl

/-- The low byte of STATUS is its eight flags (R32). -/
theorem statusWord_flagByte (s : State) :
    (statusWord s).extractLsb' 0 8 = BitVec.ofBool s.unbinding ++ BitVec.ofBool s.csActive
      ++ BitVec.ofBool s.readyAtTake ++ BitVec.ofBool s.readyIn ++ BitVec.ofBool s.busyOut ++ BitVec.ofBool s.pending
      ++ BitVec.ofBool (transferring s) ++ BitVec.ofBool s.bound := by
  obtain ⟨hbound, htransferring, hpending, hbusy, hready, htake, hcs, hunbinding⟩ := statusWord_flags s
  apply BitVec.eq_of_getLsbD_eq
  intro i hi
  simp only [BitVec.getLsbD_extractLsb', BitVec.getLsbD_append, BitVec.getLsbD_ofBool, Nat.zero_add, hi]
  interval_cases i <;> simp only [hbound, htransferring, hpending, hbusy, hready, htake, hcs, hunbinding] <;> simp

/-- CRC_VALIDATE changes no flag of STATUS: the attempt is in progress before and after (R132). -/
theorem statusWord_blockValidated {s : State} (p : Params) (hphase : s.phase = .validate) :
    (statusWord (blockValidated p s)).extractLsb' 8 3 = 7#3
    ∧ (statusWord (blockValidated p s)).extractLsb' 0 8 = (statusWord s).extractLsb' 0 8 := by
  refine ⟨statusWord_phase _, ?_⟩
  simp [statusWord_flagByte, blockValidated, transferring, hphase]

/-! ## The statements of 43_crc_validator.md on one operation -/

/-- Settles O25: the block reads back as payload and field, and the two branches of the verdict on it. -/
theorem crcValidateLatchesTheVerdict : Obligations.CrcValidateLatchesTheVerdict := by
  refine ⟨by decide, fun s => ⟨enabled_crcValidate s, fun hb hphase hfits => ?_⟩⟩
  have hexec : exec .crcValidate s = .next (blockValidated Config.engine s) :=
    execCrcValidateWith_inside ((enabled_crcValidate s).2 ⟨hb, hphase⟩) hfits
  refine ⟨_, _, memRead_payload hfits, take_bufBlock s, fieldOfBlock_bufBlock Config.engine s, fun heq => ?_,
    fun hne => ?_, fun t ht => ?_⟩
  · rw [hexec, blockValidated_of_eq heq]
  · rw [hexec, blockValidated_of_ne hne]
  · cases hexec.symm.trans ht
    exact statusWord_blockValidated Config.engine hphase

/-- Settles O36: the verdict is the comparison, and CRC_VALIDATE latches the verdict on the block alone. -/
theorem validatorNeverPassesSilently : Obligations.ValidatorNeverPassesSilently := by
  constructor
  · rintro p payload f0 f1 f2 f3 s _ rfl
    rw [latchVerdict_resKind, latchVerdict_resExpected, latchVerdict_resReceived, eq_comm (b := crc32be p payload)]
    split <;> simp [*]
  · intro p s t hs ht hfits hlen hbytes
    have hblock : bufBlock t = bufBlock s := bufBlock_congr hlen.symm fun a ha => (hbytes a ha).symm
    have hpayload : payloadLen t = payloadLen s := congrArg BitVec.toNat hlen.symm
    refine ⟨_, _, _, _, execCrcValidateWith_inside hs hfits, execCrcValidateWith_inside ht (hlen ▸ hfits),
      take_bufBlock s, fieldOfBlock_bufBlock p s, rfl, rfl, rfl, ?_⟩
    simp only [blockValidated, latchVerdict_resKind, latchVerdict_resExpected, latchVerdict_resReceived, hblock,
      hpayload, and_self]

end Sys2Proof.Machine

namespace Sys2Proof.Machine

/-! SUPPORT. Whole attempts: sequences of operations, the bytes a transaction stores, and the states on the way from
TAKE to DELIVER. -/

/-! ## Sequences of operations -/

theorem execAll_cons_of_next {i : Instr} {s t : State} (h : exec i s = .next t) (is : List Instr) :
    execAll (i :: is) s = execAll is t := by
  simp only [execAll, h]

theorem execAll_append_of_next {is : List Instr} {s t : State} (h : execAll is s = .next t) (js : List Instr) :
    execAll (is ++ js) s = execAll js t := by
  induction is generalizing s with
  | nil => cases h; rfl
  | cons i is ih =>
    cases hi : exec i s with
    | next u =>
      rw [execAll_cons_of_next hi] at h
      rw [List.cons_append, execAll_cons_of_next hi, ih h]
    | fault f => simp [execAll, hi] at h
    | refused r => simp [execAll, hi] at h

/-! ## The bytes of a transaction -/

/-- Bytes listed at rising addresses from `a` on. -/
def Memory.storeAll (a : Nat) : List Byte → Memory → Memory
  | [], m => m
  | b :: bytes, m => Memory.storeAll (a + 1) bytes (Memory.store a b m)

theorem find_storeAll_below {k a : Nat} (h : k < a) (bytes : List Byte) (m : Memory) :
    Memory.find k (Memory.storeAll a bytes m) = Memory.find k m := by
  induction bytes generalizing a m with
  | nil => rfl
  | cons b bytes ih => rw [Memory.storeAll, ih (by omega), find_store_other (by omega)]

theorem find_storeAll_above {k a : Nat} {bytes : List Byte} (h : a + bytes.length ≤ k) (m : Memory) :
    Memory.find k (Memory.storeAll a bytes m) = Memory.find k m := by
  induction bytes generalizing a m with
  | nil => rfl
  | cons b bytes ih =>
    rw [List.length_cons] at h
    rw [Memory.storeAll, ih (by omega), find_store_other (by omega)]

theorem find_storeAll_inside {k a : Nat} {bytes : List Byte} (h : k < bytes.length) (m : Memory) :
    Memory.find (a + k) (Memory.storeAll a bytes m) = some bytes[k] := by
  induction bytes generalizing k a m with
  | nil => cases h
  | cons b bytes ih =>
    cases k with
    | zero => rw [Memory.storeAll, find_storeAll_below (by omega)]; exact find_store_same a b m
    | succ k =>
      have haddr : a + (k + 1) = a + 1 + k := by omega
      rw [Memory.storeAll, haddr, ih (by simpa using h)]
      rfl

/-- The bytes of a transaction read back at the addresses they were stored at. -/
theorem bufByte_of_storeAll {s t : State} {block : List Byte} (hb : t.buf = Memory.storeAll 0 block s.buf) {k : Nat}
    (hk : k < block.length) : bufByte t k = block.getD k 0#8 := by
  have hfind := find_storeAll_inside (a := 0) hk s.buf
  rw [Nat.zero_add] at hfind
  rw [bufByte, hb, hfind, Option.getD_some, List.getD_eq_getElem block 0#8 hk]

/-- Beyond the bytes of a transaction the buffer reads as before. -/
theorem bufByte_of_storeAll_above {s t : State} {block : List Byte} (hb : t.buf = Memory.storeAll 0 block s.buf)
    (he : t.bufEpoch = s.bufEpoch) {k : Nat} (hk : block.length ≤ k) : bufByte t k = bufByte s k := by
  rw [bufByte, hb, find_storeAll_above (by omega), he, bufByte]

/-- A buffer that holds a block of BLOCK_LEN bytes reads back as that block. -/
theorem bufBlock_eq {s : State} {block : List Byte} (hlen : block.length = payloadLen s + 4)
    (h : ∀ k, k < block.length → bufByte s k = block.getD k 0#8) : bufBlock s = block := by
  refine List.ext_getElem (by simp [bufBlock, hlen]) fun k _ hk => ?_
  rw [← List.getD_eq_getElem block 0#8 hk, ← h k hk]
  simp [bufBlock]

/-- What BUS_BYTE leaves in the history (R72). -/
def busByteEvent (b : Byte) : Event := .busByte (opWord (.busByte b)) b

/-- The state after a BUS_BYTE inside the buffer (R111). -/
def byteStored (b : Byte) (s : State) : State :=
  record (busByteEvent b) { s with buf := Memory.store s.busCount.toNat b s.buf, busCount := s.busCount + 1#32 }

/-- BUS_BYTEs that fit the block: each byte is stored behind the one before it (R111). -/
theorem execAll_busBytes {s : State} {bytes : List Byte} (hb : s.bound = true) (hphase : s.phase = .reading)
    (hfits : lengthFits Config.engine s.cfgPayloadLen = true)
    (hroom : s.busCount.toNat + bytes.length ≤ payloadLen s + 4) :
    execAll (bytes.map .busByte) s = .next { s with
      buf := Memory.storeAll s.busCount.toNat bytes s.buf
      busCount := s.busCount + BitVec.ofNat 32 bytes.length
      hist := s.hist ++ bytes.map busByteEvent } := by
  induction bytes generalizing s with
  | nil => simp [execAll, Memory.storeAll]
  | cons b bytes ih =>
    rw [List.length_cons] at hroom
    obtain ⟨hblock, hcapacity⟩ := blockLen_toNat engine_wellFormed hfits
    have hlt : s.busCount < blockLen s := by
      rw [BitVec.lt_def]
      omega
    have hnext : (s.busCount + 1#32).toNat = s.busCount.toNat + 1 := by bv_omega
    have hcount : s.busCount + 1#32 + BitVec.ofNat 32 bytes.length
        = s.busCount + BitVec.ofNat 32 (bytes.length + 1) := by
      rw [BitVec.add_assoc, Nat.add_comm bytes.length, BitVec.ofNat_add]
    have hbyte : exec (.busByte b) s = .next (byteStored b s) :=
      execBusByteWith_inside ((enabled_busByte b s).2 ⟨hb, hphase, hlt⟩)
        (busCount_lt_bufCapacity engine_wellFormed hlt hfits)
    have hroom' : (s.busCount + 1#32).toNat + bytes.length ≤ payloadLen s + 4 := by rw [hnext]; omega
    rw [List.map_cons, execAll_cons_of_next hbyte, ih (s := byteStored b s) hb hphase hfits hroom']
    simp [byteStored, record, Memory.storeAll, hnext, hcount]

/-! ## From TAKE to the last byte -/

/-- TAKE whose guard holds (R156). -/
theorem execTake_of_pending {s : State} (hb : s.bound = true) (hphase : s.phase = .idle) (hpending : s.pending = true) :
    execTake s = .next { s with
      pending := false, readyAtTake := s.readyIn, phase := .taken, hist := s.hist ++ [.op 0x00000030#32] } := by
  have hword : opWord .take = 0x00000030#32 := by decide
  rw [execTake, guarded_true ((enabled_take s).2 ⟨hb, hphase, hpending⟩), hword]
  rfl

/-- The attempt taken in `s` once `bytes` have been received: BUSY and chip-select are up (R170). -/
def receiving (bytes : List Byte) (s : State) : State :=
  { s with
    pending := false
    readyAtTake := s.readyIn
    phase := .reading
    busyOut := true
    csActive := true
    busCount := BitVec.ofNat 32 bytes.length
    buf := Memory.storeAll 0 bytes s.buf
    hist := s.hist ++ [.op 0x00000030#32, .op 0x00000031#32, .op 0x00000032#32] ++ bytes.map busByteEvent }

/-- The first half of every attempt: TAKE, ASSERT_BUSY, READ_BLOCK and the bytes received (R170). -/
theorem execAll_receive {s : State} {bytes : List Byte} (hb : s.bound = true) (hphase : s.phase = .idle)
    (hpending : s.pending = true) (hfits : lengthFits Config.engine s.cfgPayloadLen = true)
    (hroom : bytes.length ≤ payloadLen s + 4) :
    execAll ([Instr.take, Instr.assertBusy, Instr.readBlock] ++ bytes.map Instr.busByte) s
      = .next (receiving bytes s) := by
  -- Each step is elaborated last (`by exact`), when the state it starts from is known.
  have hopen : execAll [.take, .assertBusy, .readBlock] s = .next (receiving [] s) := by
    refine (execAll_cons_of_next (by exact execTake_of_pending hb hphase hpending) _).trans ?_
    refine (execAll_cons_of_next (by exact execAssertBusy_of_taken hb rfl) _).trans ?_
    refine (execAll_cons_of_next (by exact execReadBlock_of_asserted hb rfl) _).trans ?_
    simp [execAll, receiving, Memory.storeAll]
  rw [execAll_append_of_next hopen, execAll_busBytes (s := receiving [] s) hb rfl hfits (by simpa [receiving])]
  simp [receiving, Memory.storeAll]

/-! ## From the last byte to DELIVER -/

/-- CRC_VALIDATE does not modify the buffer (R132). -/
theorem memRead_blockValidated (p : Params) (s : State) (a n : Nat) :
    memRead p (blockValidated p s) a n = memRead p s a n :=
  memRead_congr (latchVerdict_buf ..) (latchVerdict_bufEpoch ..) a n

theorem payloadLen_blockValidated (p : Params) (s : State) : payloadLen (blockValidated p s) = payloadLen s :=
  congrArg BitVec.toNat (latchVerdict_cfgPayloadLen ..)

/-- The latch that CRC_VALIDATE leaves stands for the block's verdict (R134, R175). -/
theorem latchedResult_blockValidated {p : Params} {s : State} (h : lengthFits p s.cfgPayloadLen = true) :
    latchedResult p (blockValidated p s) = .ok (verdict p (payloadLen s) (bufBlock s)) := by
  have hread := memRead_blockValidated p s 0 (payloadLen s)
  rw [memRead_payload h] at hread
  by_cases heq : crc32be p ((bufBlock s).take (payloadLen s)) = fieldOfBlock p (payloadLen s) (bufBlock s)
  · have hkind : (blockValidated p s).resKind = .ok := by rw [blockValidated_of_eq heq]
    simp only [latchedResult, hkind, payloadLen_blockValidated, hread, verdict, if_pos heq]
  · rw [blockValidated_of_ne heq, verdict, if_neg heq]
    rfl

/-- DELIVER of a latched result in a session that goes on (R175). -/
theorem execDeliverWith_of_latched {p : Params} {s : State} {r : TransferResult} (hg : enabled .deliver s = true)
    (hunbinding : s.unbinding = false) (h : latchedResult p s = .ok r) :
    execDeliverWith p s = .next { s with
      out := s.out ++ [r], resKind := .none, resExpected := 0#32, resReceived := 0#32, phase := .idle
      hist := s.hist ++ [.deliver 0x00000035#32 r] } := by
  have hword : opWord .deliver = 0x00000035#32 := by decide
  simp [execDeliverWith, guarded_true hg, h, hword, leaveAttempt, endIfUnbinding, hunbinding, record, emit, latch]

/-- The state after CRC_VALIDATE and DELIVER of the block in the buffer, in a session that goes on (R171, R172). -/
def blockDelivered (s : State) : State :=
  { s with
    out := s.out ++ [verdict Config.engine (payloadLen s) (bufBlock s)]
    resKind := .none
    resExpected := 0#32
    resReceived := 0#32
    phase := .idle
    hist := s.hist ++ [.op 0x00000034#32, .deliver 0x00000035#32 (verdict Config.engine (payloadLen s) (bufBlock s))] }

theorem execAll_validate_deliver {s : State} (hb : s.bound = true) (hunbinding : s.unbinding = false)
    (hphase : s.phase = .validate) (hfits : lengthFits Config.engine s.cfgPayloadLen = true) :
    execAll [.crcValidate, .deliver] s = .next (blockDelivered s) := by
  have hvalidate : exec .crcValidate s = .next (blockValidated Config.engine s) :=
    execCrcValidateWith_inside ((enabled_crcValidate s).2 ⟨hb, hphase⟩) hfits
  have hdeliver : exec .deliver (blockValidated Config.engine s) = _ :=
    execDeliverWith_of_latched ((enabled_deliver _).2 ⟨by simpa [blockValidated], rfl⟩)
      (by simpa [blockValidated]) (latchedResult_blockValidated hfits)
  rw [execAll_cons_of_next hvalidate, execAll_cons_of_next hdeliver]
  simp [execAll, blockDelivered, blockValidated]

/-- The attempt taken in `s` once the whole block has been received and BUSY is down again (R171). -/
def blockReceived (block : List Byte) (s : State) : State :=
  { receiving block s with
    phase := .validate
    csActive := false
    busyOut := false
    hist := (receiving block s).hist ++ [.op 0x00000042#32, .op 0x00000033#32] }

theorem bufBlock_blockReceived {s : State} {block : List Byte} (hlen : block.length = payloadLen s + 4) :
    bufBlock (blockReceived block s) = block :=
  bufBlock_eq hlen fun _ => bufByte_of_storeAll (s := s) rfl

/-- BUS_END and DEASSERT_BUSY after the last byte of the block (R171). -/
theorem execAll_complete {s : State} {block : List Byte} (hb : s.bound = true)
    (hfull : BitVec.ofNat 32 block.length = blockLen s) :
    execAll [.busEnd, .deassertBusy] (receiving block s) = .next (blockReceived block s) := by
  refine (execAll_cons_of_next (by exact execBusEnd_of_full hb rfl hfull) _).trans ?_
  refine (execAll_cons_of_next (by exact execDeassertBusy_of_readDone hb rfl) _).trans ?_
  simp [execAll, blockReceived]

/-- The operations of an attempt (R85), cut where its transaction ends and where BUSY has fallen. -/
theorem expandPseudo_attempt (block : List Byte) :
    expandPseudo (.attempt block) = ([Instr.take, Instr.assertBusy, Instr.readBlock] ++ block.map Instr.busByte)
      ++ ([Instr.busEnd, Instr.deassertBusy] ++ [Instr.crcValidate, Instr.deliver]) := by
  simp [expandPseudo, expandRx]

/-- Settles O34: the first half of the attempt, the end of its transaction, then the verdict on the block, which is what
the buffer reads back. -/
theorem attemptDeliversTheBlocksVerdict : Obligations.AttemptDeliversTheBlocksVerdict := by
  intro s block hb hunbinding hphase hpending hfits hlen
  obtain ⟨hblockLen, -⟩ := blockLen_toNat engine_wellFormed hfits
  have hfull : BitVec.ofNat 32 block.length = blockLen s := by
    rw [hlen, ← hblockLen, BitVec.ofNat_toNat, BitVec.setWidth_eq]
  have hrun : execAll (expandPseudo (.attempt block)) s = .next (blockDelivered (blockReceived block s)) := by
    rw [expandPseudo_attempt, execAll_append_of_next (execAll_receive hb hphase hpending hfits hlen.le),
      execAll_append_of_next (execAll_complete hb hfull),
      execAll_validate_deliver (s := blockReceived block s) hb hunbinding rfl hfits]
  have hout : (blockDelivered (blockReceived block s)).out
      = s.out ++ [verdict Config.engine (payloadLen s) block] := by
    rw [blockDelivered, bufBlock_blockReceived hlen]
    rfl
  have hbuf : (blockDelivered (blockReceived block s)).buf = Memory.storeAll 0 block s.buf := rfl
  have hepoch : (blockDelivered (blockReceived block s)).bufEpoch = s.bufEpoch := rfl
  exact ⟨_, hrun, hout, rfl, hb, rfl, rfl, rfl, rfl, hfull, rfl, rfl, rfl, fun _ => bufByte_of_storeAll hbuf,
    fun _ => bufByte_of_storeAll_above hbuf hepoch⟩

end Sys2Proof.Machine

namespace Sys2Proof.Machine

/-! SUPPORT. READY and the edge detector: what their three operations do, and that nothing but an EDGE_SAMPLE that
happens sets the notification. -/

/-! ## The three operations -/

/-- READY_HIGH whose guard holds (R150). -/
theorem execReadyHigh_of_low {s : State} (hready : s.readyIn = false) :
    execReadyHigh s = .next { s with readyIn := true, hist := s.hist ++ [.op 0x00000011#32] } := by
  have hword : opWord .readyHigh = 0x00000011#32 := by decide
  rw [execReadyHigh, guarded_true ((enabled_readyHigh s).2 hready), hword]
  rfl

/-- READY_LOW whose guard holds (R151). -/
theorem execReadyLow_of_high {s : State} (hready : s.readyIn = true) :
    execReadyLow s = .next { s with readyIn := false, hist := s.hist ++ [.op 0x00000010#32] } := by
  have hword : opWord .readyLow = 0x00000010#32 := by decide
  rw [execReadyLow, guarded_true ((enabled_readyLow s).2 hready), hword]
  rfl

/-- EDGE_SAMPLE of READY risen since the last sample: the notification is set (R152). -/
theorem execEdgeSample_of_rising {s : State} (hb : s.bound = true) (hunbinding : s.unbinding = false)
    (hprev : s.readyPrev = false) (hready : s.readyIn = true) :
    execEdgeSample s = .next { s with
      pending := true, readyPrev := true, hist := s.hist ++ [.op 0x00000020#32] } := by
  have hword : opWord .edgeSample = 0x00000020#32 := by decide
  have hg : enabled .edgeSample s = true := (enabled_edgeSample s).2 ⟨hb, hunbinding, by simp [hprev, hready]⟩
  rw [execEdgeSample, guarded_true hg, hword, hprev, hready, Bool.not_false, Bool.and_self, Bool.or_true]
  rfl

/-- EDGE_SAMPLE of READY fallen since the last sample: the detector's level alone changes (R152). -/
theorem execEdgeSample_of_falling {s : State} (hb : s.bound = true) (hunbinding : s.unbinding = false)
    (hprev : s.readyPrev = true) (hready : s.readyIn = false) :
    execEdgeSample s = .next { s with readyPrev := false, hist := s.hist ++ [.op 0x00000020#32] } := by
  have hword : opWord .edgeSample = 0x00000020#32 := by decide
  have hg : enabled .edgeSample s = true := (enabled_edgeSample s).2 ⟨hb, hunbinding, by simp [hprev, hready]⟩
  rw [execEdgeSample, guarded_true hg, hword, hprev, hready, Bool.not_true, Bool.and_self, Bool.or_false]
  rfl

/-- READY is bit 4 of STATUS (R32). -/
theorem statusWord_readyIn (s : State) : (statusWord s).getLsbD 4 = s.readyIn := by
  obtain ⟨-, -, -, -, hready, -⟩ := statusWord_flags s
  exact hready

/-- The notification is bit 2 of STATUS (R32). -/
theorem statusWord_pending (s : State) : (statusWord s).getLsbD 2 = s.pending := by
  obtain ⟨-, -, hpending, -⟩ := statusWord_flags s
  exact hpending

/-! ## What PERIPH and EDGE write -/

section Frames

variable {p : Params} {i : Instr} {s t : State}

/-- A step of PERIPH writes READY alone, whatever the state (R150, R151). -/
theorem execWith_periph_frame (ha : i.agent = .periph) (hx : execWith p i s = .next t) :
    t = { s with readyIn := t.readyIn, hist := t.hist } := by
  cases i with
  | readyLow => rcases execReadyLow_next hx with ⟨-, rfl⟩ | rfl <;> rfl
  | readyHigh => rcases execReadyHigh_next hx with ⟨-, rfl⟩ | rfl <;> rfl
  | bind | unbind | regRead | regWrite | edgeSample | take | assertBusy | readBlock | deassertBusy | crcValidate
  | deliver | busByte | busError | busEnd => cases ha

/-- EDGE_SAMPLE writes the notification and the detector's level alone, whatever the state, and drops no notification
(R152, R154). -/
theorem execEdgeSample_frame (hx : execEdgeSample s = .next t) :
    t = { s with pending := t.pending, readyPrev := t.readyPrev, hist := t.hist }
    ∧ (s.pending = true → t.pending = true) := by
  rcases execEdgeSample_next hx with ⟨-, rfl⟩ | rfl
  · exact ⟨rfl, fun hpending => by simp [hpending]⟩
  · exact ⟨rfl, id⟩

theorem eq_edgeSample_of_agent (ha : i.agent = .edge) : i = .edgeSample := by
  cases i with
  | edgeSample => rfl
  | bind | unbind | regRead | regWrite | readyLow | readyHigh | take | assertBusy | readBlock | deassertBusy
  | crcValidate | deliver | busByte | busError | busEnd => cases ha

/-- A notification outlives every step of PERIPH and EDGE, none of which touches the sequencer (R154). -/
theorem execWith_coalesces (ha : i.agent = .periph ∨ i.agent = .edge) (hx : execWith p i s = .next t)
    (hpending : s.pending = true) : t.pending = true ∧ t.phase = s.phase ∧ t.bound = s.bound := by
  rcases ha with ha | ha
  · rw [execWith_periph_frame ha hx]
    exact ⟨hpending, rfl, rfl⟩
  · cases eq_edgeSample_of_agent ha
    obtain ⟨hframe, hkept⟩ := execEdgeSample_frame hx
    exact ⟨hkept hpending, by rw [hframe], by rw [hframe]⟩

/-! ## Who sets the notification -/

/-- An operation of PERIPH, WORKER or BUS whose effect is one recorded update that sets no notification. -/
theorem guarded_pending {u : State} {e : Event} (hx : guarded i s (.next (record e u)) = .next t)
    (hu : s.pending = false → u.pending = false) (hclear : s.pending = false) : t.pending = false := by
  rcases guarded_next hx with ⟨-, hnext⟩ | ⟨-, rfl⟩
  · cases hnext
    exact hu hclear
  · exact hclear

/-- Every operation but EDGE_SAMPLE leaves a clear notification clear (R24). -/
theorem execWith_pending_of_not_edgeSample (hx : execWith p i s = .next t) (hi : i ≠ .edgeSample)
    (hclear : s.pending = false) : t.pending = false := by
  cases i with
  | edgeSample => exact absurd rfl hi
  | bind => rcases execBindWith_next hx with ⟨-, rfl⟩ | ⟨-, -, rfl⟩ | ⟨-, -, rfl⟩ <;> simp [hclear]
  | unbind => rcases execUnbind_next hx with ⟨-, rfl⟩ | ⟨-, rfl⟩ | ⟨-, rfl⟩ <;> simp [hclear]
  | regRead r => rcases execRegReadWith_next hx with ⟨-, -, rfl⟩ | ⟨-, rfl⟩ <;> exact hclear
  | regWrite r v =>
    cases execRegWrite_next hx
    rcases writeControlReg_cases r v s with ⟨-, -, hw⟩ | ⟨-, -, hw⟩ | ⟨-, -, hw⟩ | ⟨-, -, hw⟩ <;> rw [hw] <;>
      exact hclear
  | readyLow | readyHigh | assertBusy | readBlock | busError | busEnd => exact guarded_pending hx id hclear
  | take => exact guarded_pending hx (fun _ => rfl) hclear
  | deassertBusy => rcases execDeassertBusy_next hx with ⟨-, rfl⟩ | ⟨-, rfl⟩ | rfl <;> exact hclear
  | crcValidate => rcases execCrcValidateWith_next hx with ⟨_, _, -, -, -, rfl⟩ | rfl <;> simp [hclear]
  | deliver => rcases execDeliverWith_next hx with ⟨r, -, -, rfl⟩ | rfl <;> simp [hclear]
  | busByte b => rcases execBusByteWith_next hx with ⟨-, -, rfl⟩ | rfl <;> exact hclear

end Frames

/-! ## Sequences of operations -/

/-- A sequence that ends in a next state does so after its first operation (R14). -/
theorem execAll_cons_next {i : Instr} {is : List Instr} {s t : State} (h : execAll (i :: is) s = .next t) :
    ∃ u, exec i s = .next u ∧ execAll is u = .next t := by
  cases hi : exec i s with
  | next u => exact ⟨u, rfl, by rwa [execAll_cons_of_next hi] at h⟩
  | fault f => simp [execAll, hi] at h
  | refused r => simp [execAll, hi] at h

/-- READY rises and falls again: the history alone shows it (R153). -/
theorem execAll_pulse {s : State} (hready : s.readyIn = false) :
    execAll [.readyHigh, .readyLow] s = .next { s with
      hist := s.hist ++ [.op 0x00000011#32, .op 0x00000010#32] } := by
  -- Each step is elaborated last (`by exact`), when the state it starts from is known.
  refine (execAll_cons_of_next (by exact execReadyHigh_of_low hready) _).trans ?_
  refine (execAll_cons_of_next (by exact execReadyLow_of_high rfl) _).trans ?_
  simp [execAll, ← hready]

/-! ## The statements of 44_orchestrator.md on READY and the edge detector -/

/-- Settles O11: the state after READY_HIGH, and STATUS in it. -/
theorem readyHighRaisesReady : Obligations.ReadyHighRaisesReady :=
  ⟨by decide, fun s => ⟨enabled_readyHigh s, fun hready =>
    ⟨_, execReadyHigh_of_low hready, rfl, statusWord_readyIn _⟩⟩⟩

/-- Settles O12: the state after READY_LOW, and STATUS in it. -/
theorem readyLowLowersReady : Obligations.ReadyLowLowersReady :=
  ⟨by decide, fun s => ⟨enabled_readyLow s, fun hready =>
    ⟨_, execReadyLow_of_high hready, rfl, statusWord_readyIn _⟩⟩⟩

/-- Settles O13: the state after EDGE_SAMPLE on each edge; `ready_prev` is no bit of STATUS. -/
theorem edgeSampleSignalsARisingEdge : Obligations.EdgeSampleSignalsARisingEdge :=
  ⟨by decide, fun s => ⟨enabled_edgeSample s,
    fun hb hunbinding hprev hready =>
      ⟨_, execEdgeSample_of_rising hb hunbinding hprev hready, rfl, statusWord_pending _⟩,
    fun hb hunbinding hprev hready => ⟨_, execEdgeSample_of_falling hb hunbinding hprev hready, rfl, rfl⟩⟩⟩

/-- Settles O14: after the pulse the detector sees what it saw before it, and READY low is no rising edge. -/
theorem unsampledPulseIsNoEdge : Obligations.UnsampledPulseIsNoEdge := by
  intro s hready
  refine ⟨_, execAll_pulse hready, rfl, rfl, hready, rfl, rfl, fun hprev => ?_, fun u hx => ?_⟩
  · simp [enabled, hprev, hready]
  · rcases execEdgeSample_next hx with ⟨-, rfl⟩ | rfl
    · simp [hready]
    · rfl

/-- Settles O15, by induction on the sequence. -/
theorem edgesCoalesceWhilePending : Obligations.EdgesCoalesceWhilePending := by
  intro ops
  induction ops with
  | nil =>
    rintro s t - hx hpending
    cases hx
    exact ⟨hpending, rfl, rfl⟩
  | cons i is ih =>
    intro s t hagents hx hpending
    obtain ⟨u, hi, his⟩ := execAll_cons_next hx
    rw [exec_eq_execWith] at hi
    obtain ⟨hpending', hphase, hbound⟩ := execWith_coalesces (hagents i List.mem_cons_self) hi hpending
    rw [← hphase, ← hbound]
    exact ih u t (fun j hj => hagents j (List.mem_cons_of_mem i hj)) his hpending'

/-- Settles O16: EDGE_SAMPLE, which alone sets `pending`, does not happen, and BIND samples READY itself. -/
theorem edgeDetectionIsOffOutsideTheSession : Obligations.EdgeDetectionIsOffOutsideTheSession := by
  intro s hoff
  have hdisabled : enabled .edgeSample s = false := by rcases hoff with h | h <;> simp [enabled, h]
  refine ⟨hdisabled, fun hclear i t hx => ?_, fun t hb hx hbound => ?_⟩
  · rw [exec_eq_execWith] at hx
    by_cases hi : i = .edgeSample
    · subst hi
      rw [execWith_of_disabled Config.engine hdisabled] at hx
      cases hx
      exact hclear
    · exact execWith_pending_of_not_edgeSample hx hi hclear
  · rcases execBind_next hx with ⟨hbound', -⟩ | ⟨-, -, rfl⟩ | ⟨-, -, rfl⟩
    · simp [hb] at hbound'
    · simp [hb] at hbound
    · simp [enabled]

end Sys2Proof.Machine

namespace Sys2Proof.Machine

/-! SUPPORT. The sequencer: the entry into an attempt and the return from one, the transition table, and the one step
that WORKER has in each phase. -/

/-! ## Entry and return -/

/-- STATE is bit 1 of STATUS (R32). -/
theorem statusWord_transferring (s : State) : (statusWord s).getLsbD 1 = transferring s := by
  obtain ⟨-, htransferring, -⟩ := statusWord_flags s
  exact htransferring

/-- READY at the entry is bit 5 of STATUS (R32). -/
theorem statusWord_readyAtTake (s : State) : (statusWord s).getLsbD 5 = s.readyAtTake := by
  obtain ⟨-, -, -, -, -, htake, -⟩ := statusWord_flags s
  exact htake

/-- The two flags of the session are bits 0 and 7 of STATUS (R32). -/
theorem statusWord_session (s : State) :
    (statusWord s).getLsbD 0 = s.bound ∧ (statusWord s).getLsbD 7 = s.unbinding := by
  obtain ⟨hbound, -, -, -, -, -, -, hunbinding⟩ := statusWord_flags s
  exact ⟨hbound, hunbinding⟩

/-- What a latch that holds a result stands for, its payload inside the buffer (R175): the converse of
`latchedResult_ok`. -/
theorem latchedResult_of_latched {p : Params} {s : State} {r : TransferResult}
    (h : s.resKind = .ok ∧ lengthFits p s.cfgPayloadLen = true
        ∧ r = .ok ((List.range (payloadLen s)).map (bufByte s))
      ∨ s.resKind = .busError ∧ r = .busError
      ∨ s.resKind = .mismatch ∧ r = .mismatch s.resExpected s.resReceived) : latchedResult p s = .ok r := by
  rcases h with ⟨hkind, hfits, rfl⟩ | ⟨hkind, rfl⟩ | ⟨hkind, rfl⟩
  · simp only [latchedResult, hkind, memRead_payload hfits, take_bufBlock]
  · simp only [latchedResult, hkind]
  · simp only [latchedResult, hkind]

/-- DELIVER of a latched result in a session whose UNBIND had to wait (R175, R182). -/
theorem execDeliverWith_of_unbinding {p : Params} {s : State} {r : TransferResult} (hg : enabled .deliver s = true)
    (hunbinding : s.unbinding = true) (h : latchedResult p s = .ok r) :
    execDeliverWith p s = .next { s with
      out := s.out ++ [r], resKind := .none, resExpected := 0#32, resReceived := 0#32, phase := .idle
      bound := false, unbinding := false, pending := false, busyOut := false, csActive := false
      buf := [], bufEpoch := s.bufEpoch + 1
      hist := s.hist ++ [.deliver 0x00000035#32 r] } := by
  have hword : opWord .deliver = 0x00000035#32 := by decide
  simp [execDeliverWith, guarded_true hg, h, hword, leaveAttempt, endIfUnbinding, hunbinding, record, emit, latch,
    teardown, forgetBuffer]

/-- After a DELIVER the engine is in Idle, and the session goes on with its notification unless an UNBIND had to wait
(R175). -/
theorem execDeliverWith_returns {p : Params} {s t : State} (hg : enabled .deliver s = true)
    (hx : execDeliverWith p s = .next t) :
    t.phase = .idle ∧ t.bound = (s.bound && !s.unbinding) ∧ t.unbinding = false
      ∧ t.pending = (s.pending && !s.unbinding) := by
  obtain ⟨r, -, -, rfl⟩ := (execDeliverWith_next hx).resolve_right (recordsStep_deliver hg hx).ne
  simp

/-! ## The steps of WORKER and BUS in each phase -/

section Sequencer

variable {p : Params} {i : Instr} {s t : State}

/-- Unbound, no step of WORKER or BUS is enabled (R159). -/
theorem enabled_of_unbound (ha : i.agent = .worker ∨ i.agent = .bus) (hb : s.bound = false) :
    enabled i s = false := by
  cases i with
  | bind | unbind | regRead | regWrite | readyLow | readyHigh | edgeSample => simp [Instr.agent] at ha
  | take | assertBusy | readBlock | deassertBusy | crcValidate | deliver | busByte | busError | busEnd =>
    simp [enabled, hb]

/-- An enabled step of WORKER is the step of the phase, so there is one at most (R162). -/
theorem eq_phaseStep_of_enabled (ha : i.agent = .worker) (hg : enabled i s = true) : i = phaseStep s.phase := by
  cases i with
  | bind | unbind | regRead | regWrite | readyLow | readyHigh | edgeSample | busByte | busError | busEnd => cases ha
  | take => obtain ⟨-, hidle, -⟩ := (enabled_take s).1 hg; rw [hidle, phaseStep]
  | assertBusy => obtain ⟨-, htaken⟩ := (enabled_assertBusy s).1 hg; rw [htaken, phaseStep]
  | readBlock => obtain ⟨-, hasserted⟩ := (enabled_readBlock s).1 hg; rw [hasserted, phaseStep]
  | deassertBusy =>
    obtain ⟨-, hdone | hfailed⟩ := (enabled_deassertBusy s).1 hg
    · rw [hdone, phaseStep]
    · rw [hfailed, phaseStep]
  | crcValidate => obtain ⟨-, hvalidate⟩ := (enabled_crcValidate s).1 hg; rw [hvalidate, phaseStep]
  | deliver => obtain ⟨-, hdeliver⟩ := (enabled_deliver s).1 hg; rw [hdeliver, phaseStep]

/-- In Idle the one step of WORKER is TAKE, if there is a notification (R159). -/
theorem enabled_worker_of_idle (ha : i.agent = .worker) (hb : s.bound = true) (hidle : s.phase = .idle) :
    enabled i s = true ↔ i = .take ∧ s.pending = true := by
  constructor
  · intro hg
    obtain rfl : i = .take := by rw [eq_phaseStep_of_enabled ha hg, hidle, phaseStep]
    obtain ⟨-, -, hpending⟩ := (enabled_take s).1 hg
    exact ⟨rfl, hpending⟩
  · rintro ⟨rfl, hpending⟩
    exact (enabled_take s).2 ⟨hb, hidle, hpending⟩

/-- In P_READING WORKER has no step (R162). -/
theorem disabled_worker_of_reading (ha : i.agent = .worker) (hreading : s.phase = .reading) :
    enabled i s = false := by
  by_contra hg
  have hi := eq_phaseStep_of_enabled ha (by simpa using hg)
  rw [hreading, phaseStep] at hi
  simp [hi, Instr.agent] at ha

/-- With the block full BUS ends the transaction, or fails it (R112, R113). -/
theorem enabled_bus_of_full (ha : i.agent = .bus) (hb : s.bound = true) (hreading : s.phase = .reading)
    (hfull : s.busCount = blockLen s) : enabled i s = true ↔ i = .busEnd ∨ i = .busError := by
  cases i with
  | busByte b => simp [hfull]
  | busError => simp [hb, hreading]
  | busEnd => simp [hb, hreading, hfull]
  | bind | unbind | regRead | regWrite | readyLow | readyHigh | edgeSample | take | assertBusy | readBlock
  | deassertBusy | crcValidate | deliver => cases ha

/-- Before that BUS sends a byte, or fails the transaction (R111, R113). -/
theorem enabled_bus_of_room (ha : i.agent = .bus) (hb : s.bound = true) (hreading : s.phase = .reading)
    (hroom : s.busCount < blockLen s) : enabled i s = true ↔ (∃ b, i = .busByte b) ∨ i = .busError := by
  cases i with
  | busByte b => simp [hb, hreading, hroom]
  | busError => simp [hb, hreading]
  | busEnd => simp [BitVec.ne_of_lt hroom]
  | bind | unbind | regRead | regWrite | readyLow | readyHigh | edgeSample | take | assertBusy | readBlock
  | deassertBusy | crcValidate | deliver => cases ha

/-- An enabled step of WORKER or BUS other than TAKE belongs to an attempt (R159). -/
theorem attempt_of_enabled (ha : i.agent = .worker ∨ i.agent = .bus) (hi : i ≠ .take) (hg : enabled i s = true) :
    s.phase ≠ .idle := by
  intro hidle
  cases i with
  | take => exact hi rfl
  | bind | unbind | regRead | regWrite | readyLow | readyHigh | edgeSample => simp [Instr.agent] at ha
  | assertBusy | readBlock | deassertBusy | crcValidate | deliver | busByte | busError | busEnd => simp [hidle] at hg

/-! ## The other agents -/

/-- The other agents do not move the sequencer: a BIND that opens a session writes the P_IDLE of an unbound engine
(R159, I1). -/
theorem execWith_phase_of_others (h : EngineInvWith p s) (hworker : i.agent ≠ .worker) (hbus : i.agent ≠ .bus)
    (hx : execWith p i s = .next t) : t.phase = s.phase := by
  cases i with
  | take | assertBusy | readBlock | deassertBusy | crcValidate | deliver => exact absurd rfl hworker
  | busByte | busError | busEnd => exact absurd rfl hbus
  | bind =>
    rcases execBindWith_next hx with ⟨-, rfl⟩ | ⟨-, -, rfl⟩ | ⟨hb, -, rfl⟩
    · rfl
    · rfl
    · obtain ⟨hidle, -⟩ := h.unbound hb
      exact hidle.symm
  | unbind => rcases execUnbind_next hx with ⟨-, rfl⟩ | ⟨-, rfl⟩ | ⟨-, rfl⟩ <;> rfl
  | regRead r => rcases execRegReadWith_next hx with ⟨-, -, rfl⟩ | ⟨-, rfl⟩ <;> rfl
  | regWrite r v =>
    cases execRegWrite_next hx
    rcases writeControlReg_cases r v s with ⟨-, -, hw⟩ | ⟨-, -, hw⟩ | ⟨-, -, hw⟩ | ⟨-, -, hw⟩ <;> rw [hw] <;> rfl
  | readyLow | readyHigh => rw [execWith_periph_frame rfl hx]
  | edgeSample =>
    obtain ⟨hframe, -⟩ := execEdgeSample_frame hx
    rw [hframe]

theorem attemptBudget_of_idle (hidle : s.phase = .idle) : attemptBudget s = 0 := by
  rw [attemptBudget, hidle]

/-- The other agents leave an attempt as long as it is; unbound there is none (R163). -/
theorem execWith_budget_of_others (h : EngineInvWith p s) (hworker : i.agent ≠ .worker) (hbus : i.agent ≠ .bus)
    (hx : execWith p i s = .next t) : attemptBudget t = attemptBudget s := by
  cases hb : s.bound with
  | true =>
    obtain ⟨hkeeps, -⟩ := execWith_keepsAttempt hb hworker hbus hx
    exact hkeeps.budget
  | false =>
    obtain ⟨hidle, -⟩ := h.unbound hb
    have hphase := execWith_phase_of_others h hworker hbus hx
    rw [attemptBudget_of_idle hidle, attemptBudget_of_idle (hphase.trans hidle)]

/-! ## The transition table -/

/-- R159, row by row: the phase a step starts from, its extra guard, and the phase it leaves. -/
theorem execWith_follows_table (ha : i.agent = .worker ∨ i.agent = .bus) (hg : enabled i s = true)
    (hx : execWith p i s = .next t) :
    (s.phase = .idle ∧ i = .take ∧ s.pending = true ∧ t.phase = .taken)
    ∨ (s.phase = .taken ∧ i = .assertBusy ∧ t.phase = .asserted)
    ∨ (s.phase = .asserted ∧ i = .readBlock ∧ t.phase = .reading)
    ∨ (s.phase = .reading ∧ (∃ b, i = .busByte b) ∧ s.busCount < blockLen s ∧ t.phase = .reading)
    ∨ (s.phase = .reading ∧ i = .busEnd ∧ s.busCount = blockLen s ∧ t.phase = .readDone)
    ∨ (s.phase = .reading ∧ i = .busError ∧ t.phase = .readFailed)
    ∨ (s.phase = .readDone ∧ i = .deassertBusy ∧ t.phase = .validate)
    ∨ (s.phase = .readFailed ∧ i = .deassertBusy ∧ t.phase = .deliver)
    ∨ (s.phase = .validate ∧ i = .crcValidate ∧ t.phase = .deliver)
    ∨ (s.phase = .deliver ∧ i = .deliver ∧ t.phase = .idle) := by
  have hne : t ≠ s := (execWith_recordsStep hg hx).ne
  cases i with
  | bind | unbind | regRead | regWrite | readyLow | readyHigh | edgeSample => simp [Instr.agent] at ha
  | take =>
    obtain ⟨⟨-, hidle, hpending⟩, rfl⟩ := (execTake_next hx).resolve_right hne
    simp [hidle, hpending]
  | assertBusy =>
    obtain ⟨⟨-, htaken⟩, rfl⟩ := (execAssertBusy_next hx).resolve_right hne
    simp [htaken]
  | readBlock =>
    obtain ⟨⟨-, hasserted⟩, rfl⟩ := (execReadBlock_next hx).resolve_right hne
    simp [hasserted]
  | busByte b =>
    obtain ⟨⟨-, hreading, hroom⟩, -, rfl⟩ := (execBusByteWith_next hx).resolve_right hne
    simp [hreading, hroom]
  | busEnd =>
    obtain ⟨⟨-, hreading, hfull⟩, rfl⟩ := (execBusEnd_next hx).resolve_right hne
    simp [hreading, hfull]
  | busError =>
    obtain ⟨⟨-, hreading⟩, rfl⟩ := (execBusError_next hx).resolve_right hne
    simp [hreading]
  | deassertBusy =>
    rcases execDeassertBusy_next hx with ⟨⟨-, hdone⟩, rfl⟩ | ⟨⟨-, hfailed⟩, rfl⟩ | rfl
    · simp [hdone]
    · simp [hfailed]
    · exact absurd rfl hne
  | crcValidate =>
    obtain ⟨_, _, ⟨-, hvalidate⟩, -, -, rfl⟩ := (execCrcValidateWith_next hx).resolve_right hne
    simp [hvalidate]
  | deliver =>
    obtain ⟨_, ⟨-, hdeliver⟩, -, rfl⟩ := (execDeliverWith_next hx).resolve_right hne
    simp [hdeliver]

end Sequencer

/-! ## The statements of 44_orchestrator.md on the sequencer -/

/-- Settles O18: the state after TAKE, and STATUS in it. -/
theorem takeEntersTheAttempt : Obligations.TakeEntersTheAttempt :=
  ⟨by decide, fun s => ⟨enabled_take s, fun hb hidle hpending =>
    ⟨_, execTake_of_pending hb hidle hpending, rfl, statusWord_pending _, statusWord_transferring _,
      statusWord_readyAtTake _, statusWord_phase _⟩⟩⟩

/-- Settles O26: the state after DELIVER in a session that goes on and in one that ends, and STATUS in either. -/
theorem deliverPushesTheResultAndReturnsToIdle : Obligations.DeliverPushesTheResultAndReturnsToIdle := by
  refine ⟨by decide, fun s r => ⟨enabled_deliver s, fun hb hphase hlatched => ?_⟩⟩
  have hg : enabled .deliver s = true := (enabled_deliver s).2 ⟨hb, hphase⟩
  have hresult : latchedResult Config.engine s = .ok r := latchedResult_of_latched hlatched
  refine ⟨fun hunbinding => execDeliverWith_of_latched hg hunbinding hresult,
    fun hunbinding => ⟨_, execDeliverWith_of_unbinding hg hunbinding hresult, rfl⟩, fun t hx => ?_⟩
  obtain ⟨hidle, hbound, hended, -⟩ := execDeliverWith_returns hg hx
  obtain ⟨hbit0, hbit7⟩ := statusWord_session t
  refine ⟨?_, ?_, fun hunbinding => ⟨?_, hbit7.trans hended⟩⟩
  · rw [statusWord_transferring, transferring, hidle]
    rfl
  · rw [statusWord_phase, hidle, Phase.code]
  · rw [hbit0, hbound, hunbinding, Bool.not_true, Bool.and_false]

/-- Settles O17: DELIVER keeps the notification, and in Idle WORKER has TAKE alone. -/
theorem edgeDuringTransferIsReplayedOnce : Obligations.EdgeDuringTransferIsReplayedOnce := by
  intro s t hb hunbinding hphase hx
  obtain ⟨hidle, hbound, -, hpending⟩ := execDeliverWith_returns ((enabled_deliver s).2 ⟨hb, hphase⟩) hx
  have hbound' : t.bound = true := by simp [hbound, hb, hunbinding]
  have hpending' : t.pending = s.pending := by simp [hpending, hunbinding]
  refine ⟨hidle, hbound', hpending', fun i ha => ?_⟩
  rw [enabled_worker_of_idle ha hbound' hidle, hpending']

/-- Settles O27: the table, the guard on `bound`, and the other agents. -/
theorem sequencerFollowsTheTable : Obligations.SequencerFollowsTheTable :=
  ⟨fun i s _ ha hg hx => execWith_follows_table ha hg (exec_eq_execWith i s ▸ hx), fun _ _ => enabled_of_unbound,
    fun i s _ h hworker hbus hx => execWith_phase_of_others h hworker hbus (exec_eq_execWith i s ▸ hx)⟩

/-- Settles O28: the phase determines WORKER's step, and the count what BUS may do. -/
theorem workerIsDeterministicAndBusHasTheChoice : Obligations.WorkerIsDeterministicAndBusHasTheChoice :=
  ⟨fun _ _ _ hi hj hgi hgj => (eq_phaseStep_of_enabled hi hgi).trans (eq_phaseStep_of_enabled hj hgj).symm,
    fun _ _ hreading ha => disabled_worker_of_reading ha hreading,
    fun _ _ hb hreading hfull ha => enabled_bus_of_full ha hb hreading hfull,
    fun _ _ hb hreading hroom ha => enabled_bus_of_room ha hb hreading hroom⟩

/-- Settles O31: an attempt is delivered from its last step or goes on shortened; TAKE starts it at full length. -/
theorem everyAttemptStepShortensTheAttempt : Obligations.EveryAttemptStepShortensTheAttempt := by
  refine ⟨fun i s t _ ha hi hg hx => ?_, fun s t hg hx => ?_, fun i s t h hworker hbus hx => ?_⟩
  · rw [exec_eq_execWith] at hx
    cases execWith_advances hg ha (attempt_of_enabled ha hi hg) hx with
    | delivered r before after =>
      rw [attemptBudget_of_idle after, attemptBudget, before]
      exact Nat.one_pos
    | shortened _ budget => exact budget
  · obtain ⟨hb, hidle, hpending⟩ := (enabled_take s).1 hg
    cases (execTake_of_pending hb hidle hpending).symm.trans hx
    rfl
  · exact execWith_budget_of_others h hworker hbus (exec_eq_execWith i s ▸ hx)

end Sys2Proof.Machine

namespace Sys2Proof.Machine

/-! SUPPORT. The attempt and the rest of the engine: what a command writes during an attempt, and that an attempt reads
nothing but its own fields. -/

/-! ## Commands during an attempt -/

section Commands

variable {p : Params} {s t : State}

/-- BIND in a session is refused and takes its draw (R160, R181). -/
theorem execBindWith_frame (hb : s.bound = true) (hx : execBindWith p s = .next t) :
    t = { s with hist := t.hist, responses := t.responses, draws := t.draws } := by
  rcases execBindWith_next hx with ⟨-, rfl⟩ | ⟨hunbound, -⟩ | ⟨hunbound, -⟩
  · rfl
  · simp [hb] at hunbound
  · simp [hb] at hunbound

/-- UNBIND during an attempt waits for its end, or is refused (R160, R182). -/
theorem execUnbind_frame (hphase : s.phase ≠ .idle) (hx : execUnbind s = .next t) :
    t = { s with unbinding := t.unbinding, pending := t.pending, hist := t.hist, responses := t.responses } := by
  rcases execUnbind_next hx with ⟨-, rfl⟩ | ⟨⟨-, -, hidle⟩, -⟩ | ⟨-, rfl⟩
  · rfl
  · exact absurd hidle hphase
  · rfl

theorem execRegReadWith_frame {r : Word} (hx : execRegReadWith p r s = .next t) :
    t = { s with hist := t.hist, responses := t.responses } := by
  rcases execRegReadWith_next hx with ⟨-, -, rfl⟩ | ⟨-, rfl⟩ <;> rfl

/-- In a session no register takes a write (R184). -/
theorem writeControlReg_of_bound (hb : s.bound = true) (r v : Word) : (writeControlReg r v s).2 = s := by
  rcases writeControlReg_cases r v s with ⟨hunbound, -⟩ | ⟨hunbound, -⟩ | ⟨-, -, hw⟩ | ⟨-, -, hw⟩
  · simp [hb] at hunbound
  · simp [hb] at hunbound
  · rw [hw]
  · rw [hw]

theorem execRegWrite_frame {r v : Word} (hb : s.bound = true) (hx : execRegWrite r v s = .next t) :
    t = { s with hist := t.hist, responses := t.responses } := by
  cases execRegWrite_next hx
  rw [writeControlReg_of_bound hb]
  rfl

end Commands

/-- Settles O29: one frame per operation; an attempt belongs to a session. -/
theorem transferringIsNonInterruptible : Obligations.TransferringIsNonInterruptible := by
  intro i s t h hphase hx
  have hb := h.bound_of_attempt hphase
  rw [exec_eq_execWith] at hx
  refine ⟨fun ha => execWith_periph_frame ha hx, fun ha => ?_, ?_, ?_, ?_⟩
  · cases eq_edgeSample_of_agent ha
    obtain ⟨hframe, -⟩ := execEdgeSample_frame hx
    exact hframe
  · rintro rfl
    exact execUnbind_frame hphase hx
  · rintro rfl
    exact execBindWith_frame hb hx
  · rintro r v (rfl | rfl)
    · exact execRegReadWith_frame hx
    · exact execRegWrite_frame hb hx

/-! ## What an attempt reads -/

/-- The step from `s` to `s'` and the outcome `o` of the same step from `t` are the same step of the attempt. -/
def AnswersAlike (s t s' : State) (o : Outcome) : Prop :=
  ∃ t', o = .next t' ∧ sameAttempt s' t' ∧ ∀ r, s'.out = s.out ++ [r] → t'.out = t.out ++ [r]

section Alike

variable {p : Params} {i : Instr} {s t s' u v : State}

/-- Steps that push no result answer alike where they leave the attempt alike. -/
theorem answersAlike_silent (h : sameAttempt u v) (hu : u.out = s.out) : AnswersAlike s t u (.next v) :=
  ⟨v, rfl, h, fun r hr => by simp [hu] at hr⟩

/-- Steps whose effect is one recorded update that pushes no result. -/
theorem answersAlike_guarded {e : Event} (hx : guarded i s (.next (record e u)) = .next s')
    (hg : enabled i s = true) (hgt : enabled i t = true) (h : sameAttempt u v) (hu : u.out = s.out) :
    AnswersAlike s t s' (guarded i t (.next (record e v))) := by
  cases guarded_next_of_enabled hg hx
  rw [guarded_true hgt]
  exact answersAlike_silent h hu

/-- The guards of an attempt's steps read the attempt alone. -/
theorem enabled_sameAttempt (h : sameAttempt s t) (ha : i.agent = .worker ∨ i.agent = .bus) (hi : i ≠ .take) :
    enabled i t = enabled i s := by
  obtain ⟨hbound, -, hphase, -, -, hcount, -, -, -, hlen, -, -⟩ := h
  rw [Bool.eq_iff_iff]
  cases i with
  | take => exact absurd rfl hi
  | bind | unbind | regRead | regWrite | readyLow | readyHigh | edgeSample => simp [Instr.agent] at ha
  | assertBusy | readBlock | deassertBusy | crcValidate | deliver | busByte | busError | busEnd =>
    simp [blockLen, hbound, hphase, hcount, hlen]

theorem payloadLen_sameAttempt (h : sameAttempt s t) : payloadLen t = payloadLen s := by
  obtain ⟨-, -, -, -, -, -, -, -, -, hlen, -, -⟩ := h
  rw [payloadLen, ← hlen, payloadLen]

theorem memRead_sameAttempt (h : sameAttempt s t) (a n : Nat) : memRead p t a n = memRead p s a n := by
  obtain ⟨-, -, -, -, -, -, -, -, -, -, hbuf, hepoch⟩ := h
  exact memRead_congr hbuf.symm hepoch.symm a n

theorem loadField_sameAttempt (h : sameAttempt s t) (a : Nat) : loadField p t a = loadField p s a := by
  obtain ⟨-, -, -, -, -, -, -, -, -, -, hbuf, hepoch⟩ := h
  exact loadField_congr hbuf.symm hepoch.symm a

/-- The latch stands for the same result in both states (R175). -/
theorem latchedResult_sameAttempt (h : sameAttempt s t) : latchedResult p t = latchedResult p s := by
  have hread := memRead_sameAttempt (p := p) h 0 (payloadLen s)
  have hpayload := payloadLen_sameAttempt h
  obtain ⟨-, -, -, -, -, -, hkind, hexpected, hreceived, -, -, -⟩ := h
  simp only [latchedResult, hkind, hexpected, hreceived, hpayload, hread]

theorem sameAttempt_latchVerdict (h : sameAttempt s t) (d : List Byte) (w : Word) :
    sameAttempt (latchVerdict p d w s) (latchVerdict p d w t) := by
  obtain ⟨hbound, hunbinding, hphase, hbusy, hcs, hcount, -, -, -, hlen, hbuf, hepoch⟩ := h
  simp [sameAttempt, latchVerdict_resKind, latchVerdict_resExpected, latchVerdict_resReceived, *]

/-- A deferred end of the session, too, is decided by the attempt's own fields (R182). -/
theorem sameAttempt_leaveAttempt (h : sameAttempt s t) (r : TransferResult) :
    sameAttempt (leaveAttempt r s) (leaveAttempt r t) := by
  obtain ⟨hbound, hunbinding, -, hbusy, hcs, hcount, -, -, -, hlen, hbuf, hepoch⟩ := h
  simp [sameAttempt, *]

/-- Both outcomes of the read are the same in both states (R102). -/
theorem execDeassertBusy_answersAlike (h : sameAttempt s t) (hg : enabled .deassertBusy s = true)
    (hx : execDeassertBusy s = .next s') : AnswersAlike s t s' (execDeassertBusy t) := by
  obtain ⟨hbound, hunbinding, hphase, -, hcs, hcount, hkind, hexpected, hreceived, hlen, hbuf, hepoch⟩ := h
  obtain ⟨hb, hdone | hfailed⟩ := (enabled_deassertBusy s).1 hg
  · cases (execDeassertBusy_of_readDone hb hdone).symm.trans hx
    rw [execDeassertBusy_of_readDone (hbound ▸ hb) (hphase ▸ hdone)]
    exact answersAlike_silent
      ⟨hbound, hunbinding, rfl, rfl, hcs, hcount, hkind, hexpected, hreceived, hlen, hbuf, hepoch⟩ rfl
  · cases (execDeassertBusy_of_readFailed hb hfailed).symm.trans hx
    rw [execDeassertBusy_of_readFailed (hbound ▸ hb) (hphase ▸ hfailed)]
    exact answersAlike_silent ⟨hbound, hunbinding, rfl, rfl, hcs, hcount, rfl, rfl, rfl, hlen, hbuf, hepoch⟩ rfl

/-- The byte lands at the same address of the same buffer (R111). -/
theorem execBusByteWith_answersAlike {b : Byte} (h : sameAttempt s t) (hg : enabled (.busByte b) s = true)
    (hgt : enabled (.busByte b) t = true) (hx : execBusByteWith p b s = .next s') :
    AnswersAlike s t s' (execBusByteWith p b t) := by
  obtain ⟨hbound, hunbinding, hphase, hbusy, hcs, hcount, hkind, hexpected, hreceived, hlen, hbuf, hepoch⟩ := h
  obtain ⟨-, hin, rfl⟩ := (execBusByteWith_next hx).resolve_right (recordsStep_busByte hg hx).ne
  rw [execBusByteWith_inside hgt (hcount ▸ hin)]
  have hcount' : s.busCount + 1#32 = t.busCount + 1#32 := by rw [hcount]
  have hbuf' : Memory.store s.busCount.toNat b s.buf = Memory.store t.busCount.toNat b t.buf := by rw [hcount, hbuf]
  exact answersAlike_silent
    ⟨hbound, hunbinding, hphase, hbusy, hcs, hcount', hkind, hexpected, hreceived, hlen, hbuf', hepoch⟩ rfl

/-- CRC_VALIDATE reads the same block, so it latches the same verdict (R132). -/
theorem execCrcValidateWith_answersAlike (h : sameAttempt s t) (hg : enabled .crcValidate s = true)
    (hgt : enabled .crcValidate t = true) (hx : execCrcValidateWith p s = .next s') :
    AnswersAlike s t s' (execCrcValidateWith p t) := by
  obtain ⟨payload, got, -, hpayload, hgot, rfl⟩ :=
    (execCrcValidateWith_next hx).resolve_right (recordsStep_crcValidate hg hx).ne
  have hverdict := sameAttempt_latchVerdict (p := p) h payload got
  obtain ⟨hbound, hunbinding, -, hbusy, hcs, hcount, hkind, hexpected, hreceived, hlen, hbuf, hepoch⟩ := hverdict
  rw [execCrcValidateWith, guarded_true hgt, validateBlock, payloadLen_sameAttempt h, memRead_sameAttempt h,
    loadField_sameAttempt h, hpayload, hgot]
  exact answersAlike_silent
    ⟨hbound, hunbinding, rfl, hbusy, hcs, hcount, hkind, hexpected, hreceived, hlen, hbuf, hepoch⟩
    (latchVerdict_out ..)

/-- DELIVER pushes the result that the latch and the buffer stand for (R175). -/
theorem execDeliverWith_answersAlike (h : sameAttempt s t) (hg : enabled .deliver s = true)
    (hgt : enabled .deliver t = true) (hx : execDeliverWith p s = .next s') :
    AnswersAlike s t s' (execDeliverWith p t) := by
  obtain ⟨r, -, hr, rfl⟩ := (execDeliverWith_next hx).resolve_right (recordsStep_deliver hg hx).ne
  rw [execDeliverWith, guarded_true hgt, latchedResult_sameAttempt h, hr]
  exact ⟨_, rfl, sameAttempt_leaveAttempt h r, fun r' hout => by simpa using hout⟩

/-- A step of the attempt that happens in one of two states alike happens in the other, and answers alike. -/
theorem execWith_answersAlike_of_enabled (h : sameAttempt s t) (ha : i.agent = .worker ∨ i.agent = .bus)
    (hi : i ≠ .take) (hg : enabled i s = true) (hx : execWith p i s = .next s') :
    AnswersAlike s t s' (execWith p i t) := by
  have hgt : enabled i t = true := (enabled_sameAttempt h ha hi).trans hg
  cases i with
  | take => exact absurd rfl hi
  | bind | unbind | regRead | regWrite | readyLow | readyHigh | edgeSample => simp [Instr.agent] at ha
  | deassertBusy => exact execDeassertBusy_answersAlike h hg hx
  | busByte b => exact execBusByteWith_answersAlike h hg hgt hx
  | crcValidate => exact execCrcValidateWith_answersAlike h hg hgt hx
  | deliver => exact execDeliverWith_answersAlike h hg hgt hx
  | assertBusy =>
    obtain ⟨hbound, hunbinding, -, -, hrest⟩ := h
    exact answersAlike_guarded hx hg hgt ⟨hbound, hunbinding, rfl, rfl, hrest⟩ rfl
  | readBlock =>
    obtain ⟨hbound, hunbinding, -, hbusy, -, -, hrest⟩ := h
    exact answersAlike_guarded hx hg hgt ⟨hbound, hunbinding, rfl, hbusy, rfl, rfl, hrest⟩ rfl
  | busError | busEnd =>
    obtain ⟨hbound, hunbinding, -, hbusy, -, hrest⟩ := h
    exact answersAlike_guarded hx hg hgt ⟨hbound, hunbinding, rfl, hbusy, rfl, hrest⟩ rfl

end Alike

/-- Settles O30: a step whose guard is false leaves both states as they are, and one that happens answers alike. -/
theorem attemptDependsOnNothingOutsideIt : Obligations.AttemptDependsOnNothingOutsideIt := by
  intro i s t s' ha hi h hx
  rw [exec_eq_execWith] at hx ⊢
  cases hg : enabled i s with
  | true => exact execWith_answersAlike_of_enabled h ha hi hg hx
  | false =>
    have hgt : enabled i t = false := (enabled_sameAttempt h ha hi).trans hg
    rw [execWith_of_disabled _ hg] at hx
    cases hx
    rw [execWith_of_disabled _ hgt]
    exact answersAlike_silent h rfl

end Sys2Proof.Machine

namespace Sys2Proof.Machine

/-! SUPPORT. The attempt whose transaction fails: from the bytes received to a BusError, without a CRC. -/

/-- The attempt taken in `s` once its transaction has failed after `bytes` and BUSY is down again: the bus failure is
latched (R173). -/
def failureLatched (bytes : List Byte) (s : State) : State :=
  { receiving bytes s with
    phase := .deliver
    csActive := false
    busyOut := false
    resKind := .busError
    resExpected := 0#32
    resReceived := 0#32
    hist := (receiving bytes s).hist ++ [.op 0x00000041#32, .op 0x00000033#32] }

/-- BUS_ERROR and DEASSERT_BUSY after the last byte received (R173). -/
theorem execAll_fail {s : State} (hb : s.bound = true) (bytes : List Byte) :
    execAll [.busError, .deassertBusy] (receiving bytes s) = .next (failureLatched bytes s) := by
  -- Each step is elaborated last (`by exact`), when the state it starts from is known.
  refine (execAll_cons_of_next (by exact execBusError_of_reading hb rfl) _).trans ?_
  refine (execAll_cons_of_next (by exact execDeassertBusy_of_readFailed hb rfl) _).trans ?_
  simp [execAll, failureLatched]

/-- The state after DELIVER of the bus failure, in a session that goes on (R173). -/
def failureDelivered (bytes : List Byte) (s : State) : State :=
  { failureLatched bytes s with
    out := s.out ++ [.busError]
    resKind := .none
    resExpected := 0#32
    resReceived := 0#32
    phase := .idle
    hist := (failureLatched bytes s).hist ++ [.deliver 0x00000035#32 .busError] }

theorem execDeliver_failureLatched {s : State} (hb : s.bound = true) (hunbinding : s.unbinding = false)
    (bytes : List Byte) : exec .deliver (failureLatched bytes s) = .next (failureDelivered bytes s) :=
  execDeliverWith_of_latched (p := Config.engine) (s := failureLatched bytes s) ((enabled_deliver _).2 ⟨hb, rfl⟩)
    hunbinding rfl

/-- The operations of a failed attempt (R85), cut where its transaction fails and where BUSY has fallen. -/
theorem expandPseudo_attemptFail (bytes : List Byte) :
    expandPseudo (.attemptFail bytes) = ([Instr.take, Instr.assertBusy, Instr.readBlock] ++ bytes.map Instr.busByte)
      ++ ([Instr.busError, Instr.deassertBusy] ++ [Instr.deliver]) :=
  rfl

/-- A failed attempt records no CRC_VALIDATE (R173). -/
theorem failureDelivered_hist (bytes : List Byte) (s : State) :
    ∃ events, (failureDelivered bytes s).hist = s.hist ++ events ∧ .op 0x00000034#32 ∉ events := by
  refine ⟨[.op 0x00000030#32, .op 0x00000031#32, .op 0x00000032#32] ++ bytes.map busByteEvent
    ++ [.op 0x00000041#32, .op 0x00000033#32, .deliver 0x00000035#32 .busError], ?_, ?_⟩
  · simp [failureDelivered, failureLatched, receiving]
  · simp [busByteEvent]

/-- Settles O35: the first half every attempt has, then the failure. -/
theorem failedAttemptDeliversBusError : Obligations.FailedAttemptDeliversBusError := by
  intro s bytes hb hunbinding hphase hpending hfits hroom
  have hrun : execAll (expandPseudo (.attemptFail bytes)) s = .next (failureDelivered bytes s) := by
    rw [expandPseudo_attemptFail, execAll_append_of_next (execAll_receive hb hphase hpending hfits hroom),
      execAll_append_of_next (execAll_fail hb bytes),
      execAll_cons_of_next (execDeliver_failureLatched hb hunbinding bytes), execAll]
  have hcount : (failureDelivered bytes s).busCount.toNat = bytes.length := by
    obtain ⟨hblock, -⟩ := blockLen_toNat engine_wellFormed hfits
    have hlt : bytes.length < 2 ^ 32 := by omega
    exact Nat.mod_eq_of_lt hlt
  exact ⟨_, hrun, rfl, rfl, hb, rfl, rfl, rfl, hcount, failureDelivered_hist bytes s⟩

end Sys2Proof.Machine

namespace Sys2Proof.Machine

/-! SUPPORT. The lifecycle and the control port: what the four commands answer in each state of the session, what an
unbound engine can do, and that the configuration is fixed while it is bound. -/

/-! ## Without a session -/

section Unbound

variable {p : Params} {i : Instr} {s t : State}

/-- Unbound, no step of EDGE, WORKER or BUS is enabled (R186). -/
theorem enabled_transfer_of_unbound (hb : s.bound = false) (ha : i.agent = .edge ∨ i.agent = .worker ∨ i.agent = .bus) :
    enabled i s = false := by
  rcases ha with hedge | ha
  · rw [eq_edgeSample_of_agent hedge]
    simp [enabled, hb]
  · exact enabled_of_unbound ha hb

/-- From `s` to `t` the operation leaves BUSY as low as it was, pushes no result, and opens a session only as a BIND that
drew resources. -/
structure StaysOutOfTransfer (i : Instr) (s t : State) : Prop where
  busyOut : s.busyOut = false → t.busyOut = false
  out : t.out = s.out
  opened : t.bound = true → i = .bind ∧ resourcesOk s = true

/-- A step that does not happen, or writes neither BUSY nor the session nor the results. -/
theorem staysOutOfTransfer_of_frame (hb : s.bound = false) (hbusy : t.busyOut = s.busyOut) (hout : t.out = s.out)
    (hbound : t.bound = s.bound) : StaysOutOfTransfer i s t :=
  ⟨fun hlow => hbusy.trans hlow, hout, fun ht => by simp [hbound, hb] at ht⟩

/-- A BIND that opens a session leaves BUSY low, and is refused without resources (R181). -/
theorem staysOutOfTransfer_bind (hb : s.bound = false) (hx : execBindWith p s = .next t) :
    StaysOutOfTransfer .bind s t := by
  rcases execBindWith_next hx with ⟨-, rfl⟩ | ⟨-, -, rfl⟩ | ⟨-, haccepted, rfl⟩
  · exact staysOutOfTransfer_of_frame hb rfl rfl rfl
  · exact staysOutOfTransfer_of_frame hb rfl rfl rfl
  · have hresources : resourcesOk s = true := by
      by_contra hnone
      simp [bindRefused, hnone] at haccepted
    exact ⟨fun _ => rfl, rfl, fun _ => ⟨rfl, hresources⟩⟩

/-- UNBIND finds no session to end (R182). -/
theorem staysOutOfTransfer_unbind (hb : s.bound = false) (hx : execUnbind s = .next t) :
    StaysOutOfTransfer .unbind s t := by
  rcases execUnbind_next hx with ⟨-, rfl⟩ | ⟨⟨hbound, -⟩, -⟩ | ⟨⟨hbound, -⟩, -⟩
  · exact staysOutOfTransfer_of_frame hb rfl rfl rfl
  · simp [hb] at hbound
  · simp [hb] at hbound

theorem staysOutOfTransfer_regWrite {r v : Word} (hb : s.bound = false) (hx : execRegWrite r v s = .next t) :
    StaysOutOfTransfer (.regWrite r v) s t := by
  cases execRegWrite_next hx
  rcases writeControlReg_cases r v s with ⟨-, -, hw⟩ | ⟨-, -, hw⟩ | ⟨-, -, hw⟩ | ⟨-, -, hw⟩ <;> rw [hw] <;>
    exact staysOutOfTransfer_of_frame hb rfl rfl rfl

/-- Without a session an operation is a step of PERIPH, a command, or none at all (R186). -/
theorem execWith_staysOutOfTransfer (hb : s.bound = false) (hx : execWith p i s = .next t) :
    StaysOutOfTransfer i s t := by
  cases i with
  | bind => exact staysOutOfTransfer_bind hb hx
  | unbind => exact staysOutOfTransfer_unbind hb hx
  | regRead r =>
    rw [execRegReadWith_frame hx]
    exact staysOutOfTransfer_of_frame hb rfl rfl rfl
  | regWrite r v => exact staysOutOfTransfer_regWrite hb hx
  | readyLow | readyHigh =>
    rw [execWith_periph_frame rfl hx]
    exact staysOutOfTransfer_of_frame hb rfl rfl rfl
  | edgeSample | take | assertBusy | readBlock | deassertBusy | crcValidate | deliver | busByte | busError | busEnd =>
    rw [execWith_of_disabled p (enabled_transfer_of_unbound hb (by simp [Instr.agent]))] at hx
    cases hx
    exact staysOutOfTransfer_of_frame hb rfl rfl rfl

end Unbound

/-- Settles O45: unbound, a guard on `bound` is false, and BUSY is low (I1). -/
theorem noTransferWithoutASession : Obligations.NoTransferWithoutASession := by
  refine ⟨fun s i hb ha => enabled_transfer_of_unbound hb ha, fun s i t h hb hx => ?_⟩
  rw [exec_eq_execWith] at hx
  obtain ⟨-, -, hlow, -⟩ := h.unbound hb
  have hstays := execWith_staysOutOfTransfer hb hx
  exact ⟨hstays.busyOut hlow, hstays.out, hstays.opened⟩

/-! ## The configuration -/

section Configuration

variable {p : Params} {i : Instr} {s t : State}

/-- From `s` to `t` the two configuration registers are as they were. -/
structure KeepsConfiguration (s t : State) : Prop where
  clock : t.cfgClkHz = s.cfgClkHz
  length : t.cfgPayloadLen = s.cfgPayloadLen

/-- An operation of PERIPH, EDGE, WORKER or BUS whose effect is one recorded update of other fields. -/
theorem keepsConfiguration_guarded {u : State} {e : Event} (hx : guarded i s (.next (record e u)) = .next t)
    (hu : KeepsConfiguration s u) : KeepsConfiguration s t := by
  rcases guarded_next hx with ⟨-, hnext⟩ | ⟨-, rfl⟩
  · cases hnext
    exact ⟨hu.clock, hu.length⟩
  · exact ⟨rfl, rfl⟩

/-- In a session no operation writes the configuration: REG_WRITE alone ever does (R33, R34), and is refused (R184). -/
theorem execWith_keepsConfiguration (hb : s.bound = true) (hx : execWith p i s = .next t) :
    KeepsConfiguration s t := by
  cases i with
  | bind => rw [execBindWith_frame hb hx]; exact ⟨rfl, rfl⟩
  | unbind => rcases execUnbind_next hx with ⟨-, rfl⟩ | ⟨-, rfl⟩ | ⟨-, rfl⟩ <;> exact ⟨rfl, rfl⟩
  | regRead r => rw [execRegReadWith_frame hx]; exact ⟨rfl, rfl⟩
  | regWrite r v => rw [execRegWrite_frame hb hx]; exact ⟨rfl, rfl⟩
  | readyLow | readyHigh | edgeSample | take | assertBusy | readBlock | busError | busEnd =>
    exact keepsConfiguration_guarded hx ⟨rfl, rfl⟩
  | deassertBusy => rcases execDeassertBusy_next hx with ⟨-, rfl⟩ | ⟨-, rfl⟩ | rfl <;> exact ⟨rfl, rfl⟩
  | crcValidate =>
    rcases execCrcValidateWith_next hx with ⟨_, _, -, -, -, rfl⟩ | rfl
    · exact ⟨latchVerdict_cfgClkHz .., latchVerdict_cfgPayloadLen ..⟩
    · exact ⟨rfl, rfl⟩
  | deliver =>
    rcases execDeliverWith_next hx with ⟨_, -, -, rfl⟩ | rfl
    · exact ⟨leaveAttempt_cfgClkHz .., leaveAttempt_cfgPayloadLen ..⟩
    · exact ⟨rfl, rfl⟩
  | busByte b => rcases execBusByteWith_next hx with ⟨-, -, rfl⟩ | rfl <;> exact ⟨rfl, rfl⟩

end Configuration

/-- Settles O47: BLOCK_LEN is computed from CFG_PAYLOAD_LEN alone (R35). -/
theorem configurationIsConstantWhileBound : Obligations.ConfigurationIsConstantWhileBound := by
  intro i s t hb hx
  rw [exec_eq_execWith] at hx
  obtain ⟨hclock, hlength⟩ := execWith_keepsConfiguration hb hx
  exact ⟨hclock, hlength, by rw [blockLen, blockLen, hlength]⟩

/-! ## A word that is no command -/

/-- Words that are INVALID, or of another class than HOST's, are no command (R79): the converse of `portCommand_some`. -/
theorem portCommand_eq_none {s : State} (h : ∀ i rest, decode (portWords s) = .ok (i, rest) → i.agent ≠ .host) :
    portCommand s = none := by
  refine Option.eq_none_iff_forall_ne_some.2 fun i hi => ?_
  obtain ⟨ha, rest, hd⟩ := portCommand_some hi
  exact h i rest hd ha

theorem stepMove_host_of_no_command {s : State} (h : portCommand s = none) :
    stepMove .host s = .next (rejectCommand s) := by
  simp only [stepMove, makeMove, h]

/-- Settles O8: HOST's move rejects what is no command, and one word is dropped. -/
theorem invalidCommandRespondsErrCmd : Obligations.InvalidCommandRespondsErrCmd := by
  intro s hm hno
  rw [step, hm, stepMove_host_of_no_command (portCommand_eq_none (s := dropMove s) hno)]
  rfl

/-! ## BIND -/

theorem opWord_bind : opWord .bind = 0x00000001#32 := by decide

/-- BIND in a session (R181). -/
theorem execBind_of_bound {s : State} (hb : s.bound = true) :
    execBind s = .next { s with
      draws := s.draws.tail
      responses := s.responses ++ [{ code := .errState, data := 0#32 }]
      hist := s.hist ++ [.bind 0x00000001#32 (resourcesOk s) { code := .errState, data := 0#32 }] } := by
  rw [execBind, execBindWith, if_pos hb, opWord_bind]
  rfl

/-- BIND of an unbound engine that it refuses (R181). -/
theorem execBind_of_refused {s : State} (hb : s.bound = false)
    (hrefused : bindRefused Config.engine (resourcesOk s) s = true) :
    execBind s = .next { s with
      draws := s.draws.tail
      responses := s.responses ++ [{ code := .errBind, data := 0#32 }]
      hist := s.hist ++ [.bind 0x00000001#32 (resourcesOk s) { code := .errBind, data := 0#32 }] } := by
  rw [execBind, execBindWith, if_neg (by simp [hb]), if_pos hrefused, opWord_bind]
  rfl

/-- BIND that opens a session (R181). -/
theorem execBind_of_accepted {s : State} (hb : s.bound = false)
    (haccepted : bindRefused Config.engine (resourcesOk s) s = false) :
    execBind s = .next { s with
      bound := true, unbinding := false, phase := .idle, pending := false, readyPrev := s.readyIn
      readyAtTake := false, busyOut := false, csActive := false, busCount := 0#32
      resKind := .none, resExpected := 0#32, resReceived := 0#32
      draws := s.draws.tail
      responses := s.responses ++ [{ code := .ok, data := 0#32 }]
      hist := s.hist ++ [.bind 0x00000001#32 (resourcesOk s) { code := .ok, data := 0#32 }] } := by
  rw [execBind, execBindWith, if_neg (by simp [hb]), if_neg (by simp [haccepted]), opWord_bind]
  rfl

/-- The payload length at the default BUF_CAPACITY (R7, R181). -/
theorem lengthFits_engine_iff (len : Word) : lengthFits Config.engine len = true ↔ len.toNat ≤ 40964 - 4 := by
  have hcapacity : Config.engine.bufCapacity = 40964 := rfl
  rw [lengthFits, decide_eq_true_iff, hcapacity]
  omega

theorem bindRefused_engine_iff (ok : Bool) (s : State) :
    bindRefused Config.engine ok s = true ↔ s.cfgClkHz = 0#32 ∨ s.cfgPayloadLen.toNat > 40964 - 4 ∨ ok = false := by
  have hlength : lengthFits Config.engine s.cfgPayloadLen = false ↔ s.cfgPayloadLen.toNat > 40964 - 4 := by
    rw [← Bool.not_eq_true, lengthFits_engine_iff, not_le]
  rw [bindRefused_iff, hlength]

/-- STATUS of a session in Idle with nothing going on: READY and `bound` (R32, R181). -/
theorem statusWord_of_opened {t : State} (hbound : t.bound = true) (hunbinding : t.unbinding = false)
    (hidle : t.phase = .idle) (hpending : t.pending = false) (htake : t.readyAtTake = false)
    (hbusy : t.busyOut = false) (hcs : t.csActive = false) :
    statusWord t = (BitVec.ofBool t.readyIn).setWidth 32 <<< 4 ||| 1#32 := by
  simp only [statusWord, transferring, hbound, hunbinding, hidle, hpending, htake, hbusy, hcs]
  cases t.readyIn <;> decide

/-- Settles O39: refused in a session, refused by the configuration or the draw, and accepted. -/
theorem bindOpensTheSessionOrRefuses : Obligations.BindOpensTheSessionOrRefuses := by
  refine ⟨by decide, fun s ok hok => ?_⟩
  subst hok
  refine ⟨execBind_of_bound, fun hb hrefused => execBind_of_refused hb ((bindRefused_engine_iff _ s).2 hrefused),
    fun hb hclock hlength hresources => ?_⟩
  have haccepted : bindRefused Config.engine (resourcesOk s) s = false := by
    rw [← Bool.not_eq_true, bindRefused_engine_iff]
    simp [hclock, hresources, hlength]
  exact ⟨_, execBind_of_accepted hb haccepted, rfl, statusWord_of_opened rfl rfl rfl rfl rfl rfl rfl⟩

/-- Settles O46: of the three answers of BIND the two errors leave the engine as it is, and the third is OK. -/
theorem failedBindLeavesNoTrace : Obligations.FailedBindLeavesNoTrace := by
  intro s t r hx hr hcode
  rcases execBind_next hx with ⟨-, rfl⟩ | ⟨-, -, rfl⟩ | ⟨-, -, rfl⟩
  · rfl
  · rfl
  · have hok : ({ code := .ok, data := 0#32 } : Response) = r := List.singleton_inj.1 (List.append_cancel_left hr)
    exact absurd (hok ▸ rfl) hcode

/-! ## UNBIND -/

theorem opWord_unbind : opWord .unbind = 0x00000002#32 := by decide

/-- UNBIND with no session, or one that is already ending (R182). -/
theorem execUnbind_of_no_session {s : State} (h : s.bound = false ∨ s.unbinding = true) :
    execUnbind s = .next { s with
      responses := s.responses ++ [{ code := .errState, data := 0#32 }]
      hist := s.hist ++ [.unbind 0x00000002#32 { code := .errState, data := 0#32 }] } := by
  rw [execUnbind, if_pos (by simpa using h), opWord_unbind]
  rfl

/-- UNBIND in Idle ends the session (R182), and the buffer's contents become unspecified (R69). -/
theorem execUnbind_of_idle {s : State} (hb : s.bound = true) (hunbinding : s.unbinding = false)
    (hidle : s.phase = .idle) :
    execUnbind s = .next { s with
      bound := false, unbinding := false, pending := false, busyOut := false, csActive := false
      buf := [], bufEpoch := s.bufEpoch + 1
      responses := s.responses ++ [{ code := .ok, data := 0#32 }]
      hist := s.hist ++ [.unbind 0x00000002#32 { code := .ok, data := 0#32 }] } := by
  rw [execUnbind, if_neg (by simp [hb, hunbinding]), if_pos hidle, opWord_unbind]
  rfl

/-- UNBIND during an attempt waits for its end (R182). -/
theorem execUnbind_of_attempt {s : State} (hb : s.bound = true) (hunbinding : s.unbinding = false)
    (hattempt : s.phase ≠ .idle) :
    execUnbind s = .next { s with
      unbinding := true, pending := false
      responses := s.responses ++ [{ code := .pending, data := 0#32 }]
      hist := s.hist ++ [.unbind 0x00000002#32 { code := .pending, data := 0#32 }] } := by
  rw [execUnbind, if_neg (by simp [hb, hunbinding]), if_neg hattempt, opWord_unbind]
  rfl

/-- STATUS after an UNBIND that is not refused: no notification, and a session that has ended or is ending (R32,
R182). -/
theorem statusWord_of_unbind {s t : State} (hb : s.bound = true) (hunbinding : s.unbinding = false)
    (hx : execUnbind s = .next t) :
    (statusWord t).getLsbD 2 = false
    ∧ (s.phase = .idle → (statusWord t).getLsbD 0 = false)
    ∧ (s.phase ≠ .idle → (statusWord t).getLsbD 0 = true ∧ (statusWord t).getLsbD 7 = true) := by
  obtain ⟨hbit0, hbit7⟩ := statusWord_session t
  rw [statusWord_pending, hbit0, hbit7]
  by_cases hidle : s.phase = .idle
  · cases (execUnbind_of_idle hb hunbinding hidle).symm.trans hx
    exact ⟨rfl, fun _ => rfl, fun hattempt => absurd hidle hattempt⟩
  · cases (execUnbind_of_attempt hb hunbinding hidle).symm.trans hx
    exact ⟨rfl, fun h => absurd h hidle, fun _ => ⟨hb, rfl⟩⟩

/-- Settles O40: refused, at once and deferred, and STATUS after it. -/
theorem unbindEndsOrDefersTheSession : Obligations.UnbindEndsOrDefersTheSession :=
  ⟨by decide, fun _ => ⟨execUnbind_of_no_session,
    fun hb hunbinding hidle => ⟨_, execUnbind_of_idle hb hunbinding hidle, rfl⟩,
    execUnbind_of_attempt, fun _ => statusWord_of_unbind⟩⟩

/-! ## REG_READ -/

/-- A read of a reserved register answers ERR_REG (R183). -/
theorem execRegReadWith_reserved {r : Word} (h : regOfNumber r = none) (p : Params) (s : State) :
    execRegReadWith p r s = .next (reply (.regRead (opWord (.regRead r))) .errReg 0#32 s) := by
  simp only [execRegReadWith, h]

/-- Settles O41: a number names one of the six registers, or none of them. -/
theorem regReadAnswersTheRegister : Obligations.RegReadAnswersTheRegister := by
  refine ⟨fun _ => rfl, fun r s => ?_⟩
  cases hr : regOfNumber r with
  | some reg =>
    refine ⟨_, _, execRegReadWith_assigned hr Config.engine s, ?_⟩
    rw [regNumber_of_regOfNumber hr]
    cases reg <;> simp [regNumber, readControlReg, blockLen, Config.engine]
  | none =>
    have hne : ∀ reg, r ≠ regNumber reg := by
      rintro reg rfl
      simp [regOfNumber_regNumber] at hr
    exact ⟨_, _, execRegReadWith_reserved hr Config.engine s, (absurd · (hne .status)), (absurd · (hne .cfgClkHz)),
      (absurd · (hne .cfgPayloadLen)), (absurd · (hne .blockLen)), (absurd · (hne .bufCapacity)),
      (absurd · (hne .xferCount)), fun _ => ⟨rfl, rfl⟩⟩

/-! ## REG_WRITE -/

/-- REG_WRITE answers what the write of the register gives, with RDATA 0 (R184). -/
theorem execRegWrite_of_write {r v : Word} {s u : State} {code : RespCode} (h : writeControlReg r v s = (code, u)) :
    execRegWrite r v s = .next (reply (.regWrite (opWord (.regWrite r v)) v) code 0#32 u) := by
  rw [execRegWrite, h]

/-- The clock rate takes any value while there is no session (R184). -/
theorem execRegWrite_cfgClkHz_of_unbound {s : State} (hb : s.bound = false) (v : Word) :
    execRegWrite 0x01#32 v s = .next { s with
      cfgClkHz := v
      responses := s.responses ++ [{ code := .ok, data := 0#32 }]
      hist := s.hist ++ [.regWrite 0x00000104#32 v { code := .ok, data := 0#32 }] } := by
  have hword : opWord (.regWrite 0x01#32 v) = 0x00000104#32 := show formatO 0x01#8 0x04#8 = _ by decide
  have hwrite : writeControlReg 0x01#32 v s = (.ok, { s with cfgClkHz := v }) := by
    simp [writeControlReg, regOfNumber, hb]
  rw [execRegWrite_of_write hwrite, hword]
  rfl

/-- The payload length takes any value, which BIND alone checks (R181, R184). -/
theorem execRegWrite_cfgPayloadLen_of_unbound {s : State} (hb : s.bound = false) (v : Word) :
    execRegWrite 0x02#32 v s = .next { s with
      cfgPayloadLen := v
      responses := s.responses ++ [{ code := .ok, data := 0#32 }]
      hist := s.hist ++ [.regWrite 0x00000204#32 v { code := .ok, data := 0#32 }] } := by
  have hword : opWord (.regWrite 0x02#32 v) = 0x00000204#32 := show formatO 0x02#8 0x04#8 = _ by decide
  have hwrite : writeControlReg 0x02#32 v s = (.ok, { s with cfgPayloadLen := v }) := by
    simp [writeControlReg, regOfNumber, hb]
  rw [execRegWrite_of_write hwrite, hword]
  rfl

/-- A configuration register takes no write in a session (R184). -/
theorem writeControlReg_configuration_of_bound {r : Word} {s : State} (hb : s.bound = true)
    (hr : r = 0x01#32 ∨ r = 0x02#32) (v : Word) : writeControlReg r v s = (.errState, s) := by
  rcases hr with rfl | rfl <;> simp [writeControlReg, regOfNumber, hb]

/-- A number of no configuration register takes no write, whatever the session (R184). -/
theorem writeControlReg_of_not_configuration {r : Word} (hclock : r ≠ 0x01#32) (hlength : r ≠ 0x02#32) (v : Word)
    (s : State) : writeControlReg r v s = (.errReg, s) := by
  rcases writeControlReg_cases r v s with ⟨-, hr, -⟩ | ⟨-, hr, -⟩ | ⟨-, hr | hr, -⟩ | ⟨-, -, hw⟩
  · exact absurd (regNumber_of_regOfNumber hr) hclock
  · exact absurd (regNumber_of_regOfNumber hr) hlength
  · exact absurd (regNumber_of_regOfNumber hr) hclock
  · exact absurd (regNumber_of_regOfNumber hr) hlength
  · exact hw

/-- STATUS shows nothing of the configuration, which is all that REG_WRITE writes (R32, R184). -/
theorem execRegWrite_statusWord {r v : Word} {s t : State} (hx : execRegWrite r v s = .next t) :
    statusWord t = statusWord s := by
  cases execRegWrite_next hx
  rcases writeControlReg_cases r v s with ⟨-, -, hw⟩ | ⟨-, -, hw⟩ | ⟨-, -, hw⟩ | ⟨-, -, hw⟩ <;> rw [hw] <;> rfl

/-- Settles O42: the two registers unbound, the same bound, every other number, and STATUS. -/
theorem regWriteConfiguresTheUnboundEngine : Obligations.RegWriteConfiguresTheUnboundEngine := by
  refine ⟨fun _ _ => rfl, fun r v s => ⟨?_, ?_, fun hb hr => ?_, fun hclock hlength => ?_, fun _ => ?_⟩⟩
  · rintro hb rfl
    exact execRegWrite_cfgClkHz_of_unbound hb v
  · rintro hb rfl
    exact execRegWrite_cfgPayloadLen_of_unbound hb v
  · exact execRegWrite_of_write (writeControlReg_configuration_of_bound hb hr v)
  · exact execRegWrite_of_write (writeControlReg_of_not_configuration hclock hlength v s)
  · exact execRegWrite_statusWord

end Sys2Proof.Machine

namespace Sys2Proof.Machine

/-! SUPPORT. Every step has a defined outcome: the invariants exclude the two stops, an address outside the buffer and a
DELIVER without a result. -/

/-! ## The operations that could stop -/

section Outcomes

variable {p : Params} {s : State}

/-- In P_DELIVER the latch holds a result (I5), and an OK one reads a payload inside the buffer (I4, R175). -/
theorem EngineInvWith.exists_latchedResult (h : EngineInvWith p s) (hb : s.bound = true) (hphase : s.phase = .deliver) :
    ∃ r, latchedResult p s = .ok r := by
  cases hkind : s.resKind with
  | none => exact absurd hphase (h.latched.1 hkind)
  | ok => exact ⟨_, latchedResult_of_latched (.inl ⟨hkind, h.length hb, rfl⟩)⟩
  | busError => exact ⟨_, latchedResult_of_latched (.inr (.inl ⟨hkind, rfl⟩))⟩
  | mismatch => exact ⟨_, latchedResult_of_latched (.inr (.inr ⟨hkind, rfl⟩))⟩

theorem execDeliverWith_completes (h : EngineInvWith p s) (hg : enabled .deliver s = true) :
    ∃ t, execDeliverWith p s = .next t := by
  obtain ⟨hb, hphase⟩ := (enabled_deliver s).1 hg
  obtain ⟨r, hr⟩ := h.exists_latchedResult hb hphase
  rw [execDeliverWith, guarded_true hg, hr]
  exact ⟨_, rfl⟩

theorem execCrcValidateWith_completes (h : EngineInvWith p s) (hg : enabled .crcValidate s = true) :
    ∃ t, execCrcValidateWith p s = .next t := by
  obtain ⟨hb, -⟩ := (enabled_crcValidate s).1 hg
  exact ⟨_, execCrcValidateWith_inside hg (h.length hb)⟩

/-- A count below BLOCK_LEN is an address of the buffer, because the block of a session fits it (I4). -/
theorem execBusByteWith_completes {b : Byte} (hp : p.wellFormed = true) (h : EngineInvWith p s)
    (hg : enabled (.busByte b) s = true) : ∃ t, execBusByteWith p b s = .next t := by
  obtain ⟨hb, -, hroom⟩ := (enabled_busByte b s).1 hg
  exact ⟨_, execBusByteWith_inside hg (busCount_lt_bufCapacity hp hroom (h.length hb))⟩

/-! ## The operations that answer in every state -/

theorem execUnbind_completes (s : State) : ∃ t, execUnbind s = .next t := by
  unfold execUnbind
  split
  · exact ⟨_, rfl⟩
  · split <;> exact ⟨_, rfl⟩

theorem execRegReadWith_completes (p : Params) (r : Word) (s : State) : ∃ t, execRegReadWith p r s = .next t := by
  cases hr : regOfNumber r with
  | some reg => exact ⟨_, execRegReadWith_assigned hr p s⟩
  | none => exact ⟨_, execRegReadWith_reserved hr p s⟩

/-- BUSY falls on both outcomes of the read (R102). -/
theorem execDeassertBusy_completes (hg : enabled .deassertBusy s = true) : ∃ t, execDeassertBusy s = .next t := by
  rw [execDeassertBusy, guarded_true hg]
  split <;> exact ⟨_, rfl⟩

/-! ## Every operation, every step -/

/-- A disabled operation leaves the state as it is, and an enabled one has its effect (R205). -/
theorem execWith_completes (hp : p.wellFormed = true) (h : EngineInvWith p s) (i : Instr) :
    ∃ t, execWith p i s = .next t := by
  cases hg : enabled i s with
  | false => exact ⟨s, execWith_of_disabled p hg⟩
  | true =>
    cases i with
    | bind => exact execBindWith_completes p s
    | unbind => exact execUnbind_completes s
    | regRead r => exact execRegReadWith_completes p r s
    | regWrite r v => exact ⟨_, rfl⟩
    | readyLow | readyHigh | edgeSample | take | assertBusy | readBlock | busError | busEnd =>
      exact ⟨_, guarded_true hg _⟩
    | deassertBusy => exact execDeassertBusy_completes hg
    | crcValidate => exact execCrcValidateWith_completes h hg
    | deliver => exact execDeliverWith_completes h hg
    | busByte b => exact execBusByteWith_completes hp h hg

/-- A move is answered whatever word is on the control port or names the agent's step: a word that is no command is
rejected, and one that is no agent's step moves nothing (R79, R205). -/
theorem stepMoveWith_completes (hp : p.wellFormed = true) (h : EngineInvWith p s) (m : Move) :
    ∃ t, stepMoveWith p m s = .next t := by
  cases m with
  | host =>
    rw [stepMoveWith, makeMove]
    split
    · exact execWith_completes hp (engineInv_inputs h _ _ _) _
    · exact ⟨_, rfl⟩
  | agent w =>
    rw [stepMoveWith, makeMove]
    split
    · exact execWith_completes hp h _
    · exact ⟨_, rfl⟩
  | hardwareReset ready => exact ⟨_, rfl⟩

theorem stepWith_completes (hp : p.wellFormed = true) (h : EngineInvWith p s) : ∃ t, stepWith p s = .next t :=
  stepMoveWith_completes hp (engineInv_inputs h _ _ _) (nextMove s)

end Outcomes

/-! ## The statement of 60_exceptions.md -/

/-- Settles O53: the step over the parameters is answered, and this engine is that machine at the defaults. -/
theorem everyStepHasADefinedOutcome : Obligations.EveryStepHasADefinedOutcome :=
  ⟨fun s h => step_eq_stepWith s ▸ stepWith_completes engine_wellFormed h, fun _ _ => stepWith_completes⟩

end Sys2Proof.Machine
